-- ==== Sys2Proof/Word.lean ====
section
/-! DEFINITION. The plain words of the FS-48: bytes, numbers of hosts, lanes, banks, segments and stations, and
fixed-size tables indexed by them. -/

namespace Sys2Proof

/-- One byte of a frame. -/
abbrev Byte := BitVec 8

/-- A host port, H0 to H3. -/
abbrev HostId := Fin 4

/-- A lane, 0 to 7. -/
abbrev LaneId := Fin 8

/-- One of a lane's three banks. -/
abbrev BankId := Fin 3

/-- A field line segment. -/
abbrev SegmentId := Fin 4

/-- A station's address on its segment; 31 is the broadcast address and is no station. -/
abbrev StationId := Fin 31

/-- A result record of a bank. -/
abbrev RecordId := Fin 64

/-- The level of a pin. -/
inductive Level where
  | low
  | high
  deriving DecidableEq, Repr

/-- A fixed number of like things. -/
abbrev Table (n : Nat) (α : Type) := Vector α n

/-- The entry of a table at an index. -/
def look {n : Nat} {α : Type} (t : Table n α) (i : Fin n) : α := t[i.val]

/-- A table with one entry replaced. -/
def put {n : Nat} {α : Type} (t : Table n α) (i : Fin n) (x : α) : Table n α := t.set i.val x i.isLt

/-- A table with the same entry everywhere. -/
def fill (n : Nat) {α : Type} (x : α) : Table n α := Vector.replicate n x

/-- A set of hosts: bit k of the byte of R173 is entry k. -/
abbrev HostSet := Table 4 Bool

/-- The hosts in increasing order. -/
def allHosts : List HostId := [0, 1, 2, 3]

/-- The lanes in increasing order. -/
def allLanes : List LaneId := [0, 1, 2, 3, 4, 5, 6, 7]

/-- The banks of a lane in increasing order. -/
def allBanks : List BankId := [0, 1, 2]

/-- The sum of a table of counts. -/
def total {n : Nat} (t : Table n Nat) : Nat := t.toList.sum

end Sys2Proof
end

