-- ==== Sys2Proof/Syntax.lean ====
section
/-! DEFINITION. The commands of the block, one constructor of `Instr` for each row of the table of operations and
events, with the operands that the rules give them. A request carries its port, its tag and its payload as the wire
spells it (R173, R174): numbers that may lie out of range stay bytes, and the rules' own checks judge them. -/

namespace Sys2Proof

/-- A request's payload: it fits the layout of its request, or it does not divide into that layout (R174). -/
inductive Payload (α : Type) where
  | fits (a : α)
  | misfit
  deriving DecidableEq, Repr

/-- A step encoding of a request, not yet checked under R1. An absent into is FFh. A kind code outside the table has
no layout, so the bytes after it are kept as they are. -/
inductive RawStep where
  | read (segment station index count into : Byte)
  | write (segment station index into : Byte) (data : List Byte)
  | broadcast (segment index into : Byte) (data : List Byte)
  | copy (segment station index sourceLane sourceRecord into : Byte)
  | brk (tag : Byte)
  | unknown (kind : Byte) (rest : List Byte)
  deriving DecidableEq, Repr

/-- The lane of a LANE_CLAIM: a number, or "any" (R26). -/
inductive LaneChoice where
  | lane (n : Byte)
  | any
  deriving DecidableEq, Repr

/-- An entry of LANE_CONFIG, not yet checked (R31, R174). -/
inductive RawConfig where
  | priority (v : Byte)
  | source (kind detail : Byte)
  | mode (v : Byte)
  | resume (v : Byte)
  | onError (v : Byte)
  | limit (v : Byte)
  | interval (v : Byte)
  deriving DecidableEq, Repr

/-- An entry of SETTINGS_WRITE, not yet checked (R155, R174). -/
inductive RawSetting where
  | lineRate (v : Byte)
  | replyTimeout (v : Byte)
  | segmentGuard (v : Byte)
  | silentThreshold (v : Byte)
  | probeInterval (v : Byte)
  | quota (h : HostId) (v : BitVec 16)
  deriving DecidableEq, Repr

/-- LANE_HANDOVER: lane and target host (R29). -/
structure HandoverArgs where
  lane : Byte
  target : Byte
  deriving DecidableEq, Repr

/-- LANE_CONFIG: lane and entries (R31). -/
structure ConfigArgs where
  lane : Byte
  entries : List RawConfig
  deriving DecidableEq, Repr

/-- PROG_APPEND: lane and steps (R9). -/
structure AppendArgs where
  lane : Byte
  steps : List RawStep
  deriving DecidableEq, Repr

/-- PROG_INSERT and PROG_REPLACE: lane, position and one step (R10, R11). -/
structure PlaceArgs where
  lane : Byte
  position : Byte
  step : RawStep
  deriving DecidableEq, Repr

/-- PROG_REMOVE: lane and position (R12). -/
structure RemoveArgs where
  lane : Byte
  position : Byte
  deriving DecidableEq, Repr

/-- PROG_PATCH: lane, position and data (R17). -/
structure PatchArgs where
  lane : Byte
  position : Byte
  data : List Byte
  deriving DecidableEq, Repr

/-- PROG_READ: lane, first position and count (R19). -/
structure ReadArgs where
  lane : Byte
  first : Byte
  count : Byte
  deriving DecidableEq, Repr

/-- RESULT_READ: lane, first record, count and, where given, the generation of "newer than" (R127). -/
structure ResultArgs where
  lane : Byte
  first : Byte
  count : Byte
  newerThan : Option (BitVec 16)
  deriving DecidableEq, Repr

/-- EVENT_MASK: kind mask and NIRQ enable code (R146). -/
structure MaskArgs where
  mask : BitVec 16
  enable : Byte
  deriving DecidableEq, Repr

/-- DIRECT_SUBMIT: attempt limit, retry interval, host tag and step (R75). -/
structure DirectArgs where
  limit : Byte
  interval : Byte
  hostTag : Byte
  step : RawStep
  deriving DecidableEq, Repr

/-- TIMER_SET: timer, command code and, where given, the period (R54). -/
structure TimerArgs where
  timer : Byte
  command : Byte
  period : Option (BitVec 16)
  deriving DecidableEq, Repr

/-- What a station's reply puts on the line after its first low bit (R84): a start mark whose second bit is high, or
a status byte and the bytes after it. -/
inductive ReplyWire where
  | malformedMark
  | bytes (status : Byte) (rest : List Byte)
  deriving DecidableEq, Repr

/-- Whose retry interval expires (R71): a lane's, or that of the head of a host's direct queue. -/
inductive RetryHolder where
  | lane (l : LaneId)
  | direct (h : HostId)
  deriving DecidableEq, Repr

/-- The commands, one constructor for each row of the table. `h` is a port, `tag` the tag of its request frame,
`fda` the level FDA has when the act reads it. -/
inductive Instr where
  -- power, port reset and frames
  | powerOn
  | powerOnRelease
  | portReset (h : HostId)
  | portResetRelease (h : HostId)
  | frameStart (h : HostId)
  | statusByteClockedOut (h : HostId)
  | frameEnd (h : HostId) (bytes : List Byte) (fda : Level)
  | responseExpiry (h : HostId)
  | poll (h : HostId) (tag : Byte) (payload : List Byte) (check : Byte)
  -- lanes
  | laneClaim (h : HostId) (tag : Byte) (p : Payload LaneChoice)
  | laneRelease (h : HostId) (tag : Byte) (p : Payload Byte)
  | laneHandover (h : HostId) (tag : Byte) (p : Payload HandoverArgs)
  | laneAdopt (h : HostId) (tag : Byte) (p : Payload Byte)
  | laneConfig (h : HostId) (tag : Byte) (p : Payload ConfigArgs)
  | laneArm (h : HostId) (tag : Byte) (p : Payload Byte)
  | laneDisarm (h : HostId) (tag : Byte) (p : Payload Byte)
  | laneRun (h : HostId) (tag : Byte) (p : Payload Byte)
  | laneStop (h : HostId) (tag : Byte) (p : Payload Byte)
  | laneQuery (h : HostId) (tag : Byte) (p : Payload Byte)
  | laneQueryClear (h : HostId) (tag : Byte) (p : Payload Byte)
  -- programs
  | progAppend (h : HostId) (tag : Byte) (p : Payload AppendArgs)
  | progInsert (h : HostId) (tag : Byte) (p : Payload PlaceArgs)
  | progReplace (h : HostId) (tag : Byte) (p : Payload PlaceArgs)
  | progRemove (h : HostId) (tag : Byte) (p : Payload RemoveArgs)
  | progClear (h : HostId) (tag : Byte) (p : Payload Byte)
  | progPatch (h : HostId) (tag : Byte) (p : Payload PatchArgs)
  | progRead (h : HostId) (tag : Byte) (p : Payload ReadArgs)
  -- results, events and direct requests
  | resultRead (h : HostId) (tag : Byte) (p : Payload ResultArgs)
  | resultWatch (h : HostId) (tag : Byte) (p : Payload Byte)
  | resultUnwatch (h : HostId) (tag : Byte) (p : Payload Byte)
  | eventFetch (h : HostId) (tag : Byte) (p : Payload Byte)
  | eventMask (h : HostId) (tag : Byte) (p : Payload MaskArgs)
  | directSubmit (h : HostId) (tag : Byte) (p : Payload DirectArgs)
  -- link, lease, timers and settings
  | linkEnable (h : HostId) (tag : Byte) (p : Payload Unit) (fda : Level)
  | linkDisable (h : HostId) (tag : Byte) (p : Payload Unit)
  | linkReset (h : HostId) (tag : Byte) (p : Payload Unit) (fda : Level)
  | leaseTake (h : HostId) (tag : Byte) (p : Payload Unit)
  | leaseRenew (h : HostId) (tag : Byte) (p : Payload Unit)
  | leaseDrop (h : HostId) (tag : Byte) (p : Payload Unit)
  | timerSet (h : HostId) (tag : Byte) (p : Payload TimerArgs)
  | settingsWrite (h : HostId) (tag : Byte) (p : Payload (List RawSetting))
  | settingsRead (h : HostId) (tag : Byte) (p : Payload Unit)
  | deviceQuery (h : HostId) (tag : Byte) (p : Payload Unit)
  -- triggers
  | trgSample (x : Fin 4) (level : Level)
  | timerExpiry (t : Fin 4)
  | chainTrigger (y : LaneId)
  -- arbitration and the field line
  | grant (fda : Level)
  | segmentGuardEnd (fda : Level)
  | frameFullySent
  | replyTimeout
  | replyEnd (reply : ReplyWire)
  | gapEnd (fda : Level)
  | retryExpiry (who : RetryHolder)
  | probeTimerExpiry
  | leaseExpiry
  | lineFault
  | recoveryWatchRestart
  | recoveryWatchExpiry
  | lineResetGuardEnd (fda : Level)
  | lineResetDriveEnd
  | lineResetHoldEnd (fda : Level)
  | replyStartMark
  deriving DecidableEq, Repr

end Sys2Proof
end

