-- ==== Sys2Proof/WellFormed.lean ====
section
/-! DEFINITION. Which commands are well formed: the requests whose operands a request frame can carry (R161, R173,
R174). Every other command is well formed as it stands, and a payload that does not fit its layout is one too: the
frame carries other bytes. -/

namespace Sys2Proof

/-- The longest payload of a request frame (R161). -/
def maxPayload : Nat := 250

/-- The bytes a step encoding takes, its kind code included (R173). -/
def RawStep.size : RawStep → Nat
  | .read .. => 6
  | .write _ _ _ _ data => 6 + data.length
  | .broadcast _ _ _ data => 5 + data.length
  | .copy .. => 7
  | .brk _ => 2
  | .unknown _ rest => 1 + rest.length

/-- The kind codes of the step table. -/
def isStepKind (k : Byte) : Bool := 1 ≤ k.toNat && k.toNat ≤ 5

/-- The step can be spelled: its data count fits a byte, and an unknown kind code is none of the five. -/
def RawStep.wf : RawStep → Bool
  | .write _ _ _ _ data => data.length ≤ 255
  | .broadcast _ _ _ data => data.length ≤ 255
  | .unknown k _ => !isStepKind k
  | _ => true

/-- The kind of the step is one of the five. -/
def RawStep.known : RawStep → Bool
  | .unknown .. => false
  | _ => true

/-- The bytes a configuration entry takes. -/
def RawConfig.size : RawConfig → Nat
  | .source .. => 3
  | _ => 2

/-- The bytes a settings entry takes. -/
def RawSetting.size : RawSetting → Nat
  | .quota .. => 3
  | _ => 2

/-- The lane number of a claim is not the code of "any". -/
def LaneChoice.wf : LaneChoice → Bool
  | .lane n => n != 0xFF#8
  | .any => true

/-- The steps of an append: 1 to 4 of them, and only the last may be of a kind that has no layout. -/
def AppendArgs.wf (a : AppendArgs) : Bool :=
  1 ≤ a.steps.length && a.steps.length ≤ 4 && a.steps.all RawStep.wf && a.steps.dropLast.all RawStep.known
    && 1 + (a.steps.map RawStep.size).sum ≤ maxPayload

/-- A payload that fits satisfies a check; one that does not fit needs none. -/
def Payload.all {α : Type} (f : α → Bool) : Payload α → Bool
  | .fits a => f a
  | .misfit => true

/-- The command is well formed. -/
def Instr.wf : Instr → Bool
  | .poll _ _ payload _ => payload.length ≤ 255
  | .laneClaim _ _ p => p.all LaneChoice.wf
  | .laneConfig _ _ p => p.all fun a => 1 + (a.entries.map RawConfig.size).sum ≤ maxPayload
  | .progAppend _ _ p => p.all AppendArgs.wf
  | .progInsert _ _ p => p.all fun a => a.step.wf && 2 + a.step.size ≤ maxPayload
  | .progReplace _ _ p => p.all fun a => a.step.wf && 2 + a.step.size ≤ maxPayload
  | .progPatch _ _ p => p.all fun a => 3 + a.data.length ≤ maxPayload
  | .directSubmit _ _ p => p.all fun a => a.step.wf && 3 + a.step.size ≤ maxPayload
  | .settingsWrite _ _ p => p.all fun a => (a.map RawSetting.size).sum ≤ maxPayload
  | _ => true

end Sys2Proof
end

