-- ==== Sys2Proof/Decode.lean ====
section
/-! DEFINITION. Reading commands from bits. The table gives no row any bits, so `decodeTableWord` answers none. The
block's own decoding is that of request frames (R161, R164, R173 to R175): a request code and a payload give a
request. The encoder that follows spells a request the same way. -/

namespace Sys2Proof

/-- No row of the table has bits: no word spells a command. -/
def decodeTableWord (_nbits _w : Nat) : Option Instr := none

/-- The shifts of the check register (R175). -/
def crcShift : Nat → Byte → Byte
  | 0, r => r
  | n + 1, r => crcShift n (if r.msb then (r <<< 1) ^^^ 0x07#8 else r <<< 1)

/-- The check register after one more byte (R175). -/
def crcByte (r b : Byte) : Byte := crcShift 8 (r ^^^ b)

/-- The check byte of a list of bytes (R175). -/
def crc (bytes : List Byte) : Byte := bytes.foldl crcByte 0x00#8

/-- A two-byte value, most significant byte first. -/
def word16 (hi lo : Byte) : BitVec 16 := hi ++ lo

/-- The two bytes of a value, most significant first. -/
def bytes16 (v : BitVec 16) : List Byte := [v.extractLsb' 8 8, v.extractLsb' 0 8]

/-- The four bytes of a value, most significant first. -/
def bytes32 (v : BitVec 32) : List Byte :=
  [v.extractLsb' 24 8, v.extractLsb' 16 8, v.extractLsb' 8 8, v.extractLsb' 0 8]

/-- Data with the length byte before it: the length byte and as many bytes as it says, and what is left. -/
def takeData : List Byte → Option (List Byte × List Byte)
  | n :: rest => if n.toNat ≤ rest.length then some (rest.take n.toNat, rest.drop n.toNat) else none
  | [] => none

/-- One step encoding from the front of the bytes, and what is left. A kind code outside the table has no layout and
takes all that is left (log 9). -/
def decodeStep : List Byte → Option (RawStep × List Byte)
  | [] => none
  | kind :: rest =>
    if kind = 0x01#8 then
      match rest with
      | seg :: st :: idx :: count :: into :: left => some (.read seg st idx count into, left)
      | _ => none
    else if kind = 0x02#8 then
      match rest with
      | seg :: st :: idx :: into :: more => (takeData more).map fun d => (.write seg st idx into d.1, d.2)
      | _ => none
    else if kind = 0x03#8 then
      match rest with
      | seg :: idx :: into :: more => (takeData more).map fun d => (.broadcast seg idx into d.1, d.2)
      | _ => none
    else if kind = 0x04#8 then
      match rest with
      | seg :: st :: idx :: lane :: record :: into :: left => some (.copy seg st idx lane record into, left)
      | _ => none
    else if kind = 0x05#8 then
      match rest with
      | tag :: left => some (.brk tag, left)
      | _ => none
    else some (.unknown kind rest, [])

/-- Up to `n` step encodings that take all the bytes. -/
def decodeSteps : Nat → List Byte → Option (List RawStep)
  | _, [] => some []
  | 0, _ :: _ => none
  | n + 1, b :: rest =>
    match decodeStep (b :: rest) with
    | some (st, left) => (decodeSteps n left).map (st :: ·)
    | none => none

/-- LANE_CONFIG entries that take all the bytes. -/
def decodeConfig : List Byte → Option (List RawConfig)
  | [] => some []
  | [_] => none
  | ident :: v :: rest =>
    if ident = 0x01#8 then (decodeConfig rest).map (.priority v :: ·)
    else if ident = 0x02#8 then
      match rest with
      | detail :: more => (decodeConfig more).map (.source v detail :: ·)
      | [] => none
    else if ident = 0x03#8 then (decodeConfig rest).map (.mode v :: ·)
    else if ident = 0x04#8 then (decodeConfig rest).map (.resume v :: ·)
    else if ident = 0x05#8 then (decodeConfig rest).map (.onError v :: ·)
    else if ident = 0x06#8 then (decodeConfig rest).map (.limit v :: ·)
    else if ident = 0x07#8 then (decodeConfig rest).map (.interval v :: ·)
    else none

/-- The host whose quota an identifier of SETTINGS_WRITE names. -/
def quotaHost (ident : Byte) : Option HostId :=
  if ident = 0x06#8 then some 0
  else if ident = 0x07#8 then some 1
  else if ident = 0x08#8 then some 2
  else if ident = 0x09#8 then some 3
  else none

/-- SETTINGS_WRITE entries that take all the bytes. -/
def decodeSettings : List Byte → Option (List RawSetting)
  | [] => some []
  | [_] => none
  | ident :: v :: rest =>
    if ident = 0x01#8 then (decodeSettings rest).map (.lineRate v :: ·)
    else if ident = 0x02#8 then (decodeSettings rest).map (.replyTimeout v :: ·)
    else if ident = 0x03#8 then (decodeSettings rest).map (.segmentGuard v :: ·)
    else if ident = 0x04#8 then (decodeSettings rest).map (.silentThreshold v :: ·)
    else if ident = 0x05#8 then (decodeSettings rest).map (.probeInterval v :: ·)
    else
      match quotaHost ident, rest with
      | some h, lo :: more => (decodeSettings more).map (.quota h (word16 v lo) :: ·)
      | _, _ => none

/-- A layout that may fail to fit. -/
def Payload.ofOption {α : Type} : Option α → Payload α
  | some a => .fits a
  | none => .misfit

/-- The empty payload. -/
def decodeNone : List Byte → Payload Unit
  | [] => .fits ()
  | _ => .misfit

/-- A payload of one byte. -/
def decodeByte : List Byte → Payload Byte
  | [b] => .fits b
  | _ => .misfit

/-- A payload of lane, position and one step (PROG_INSERT, PROG_REPLACE). -/
def decodePlace : List Byte → Payload PlaceArgs
  | lane :: position :: more =>
    match decodeStep more with
    | some (st, []) => .fits ⟨lane, position, st⟩
    | _ => .misfit
  | _ => .misfit

/-- LANE_CLAIM: a lane, or FFh for "any". -/
def decodeClaim : List Byte → Payload LaneChoice
  | [b] => if b = 0xFF#8 then .fits .any else .fits (.lane b)
  | _ => .misfit

/-- LANE_HANDOVER. -/
def decodeHandover : List Byte → Payload HandoverArgs
  | [lane, target] => .fits ⟨lane, target⟩
  | _ => .misfit

/-- LANE_CONFIG. -/
def decodeConfigArgs : List Byte → Payload ConfigArgs
  | lane :: more => .ofOption ((decodeConfig more).map (⟨lane, ·⟩))
  | [] => .misfit

/-- PROG_APPEND: a lane and 1 to 4 steps. -/
def decodeAppend : List Byte → Payload AppendArgs
  | lane :: b :: more => .ofOption ((decodeSteps 4 (b :: more)).map (⟨lane, ·⟩))
  | _ => .misfit

/-- PROG_REMOVE. -/
def decodeRemove : List Byte → Payload RemoveArgs
  | [lane, position] => .fits ⟨lane, position⟩
  | _ => .misfit

/-- PROG_PATCH. -/
def decodePatch : List Byte → Payload PatchArgs
  | lane :: position :: n :: data => if n.toNat = data.length then .fits ⟨lane, position, data⟩ else .misfit
  | _ => .misfit

/-- PROG_READ. -/
def decodeRead : List Byte → Payload ReadArgs
  | [lane, first, count] => .fits ⟨lane, first, count⟩
  | _ => .misfit

/-- RESULT_READ. -/
def decodeResult : List Byte → Payload ResultArgs
  | [lane, first, count] => .fits ⟨lane, first, count, none⟩
  | [lane, first, count, hi, lo] => .fits ⟨lane, first, count, some (word16 hi lo)⟩
  | _ => .misfit

/-- EVENT_MASK. -/
def decodeMask : List Byte → Payload MaskArgs
  | [hi, lo, enable] => .fits ⟨word16 hi lo, enable⟩
  | _ => .misfit

/-- DIRECT_SUBMIT. -/
def decodeDirect : List Byte → Payload DirectArgs
  | limit :: interval :: hostTag :: more =>
    match decodeStep more with
    | some (st, []) => .fits ⟨limit, interval, hostTag, st⟩
    | _ => .misfit
  | _ => .misfit

/-- TIMER_SET. -/
def decodeTimer : List Byte → Payload TimerArgs
  | [timer, command] => .fits ⟨timer, command, none⟩
  | [timer, command, hi, lo] => .fits ⟨timer, command, some (word16 hi lo)⟩
  | _ => .misfit

/-- LANE_QUERY: option 00h is the plain query, 01h the one that clears, any other option is out of range (R174). -/
def decodeQuery (h : HostId) (tag : Byte) : List Byte → Instr
  | [lane, option] =>
    if option = 0x00#8 then .laneQuery h tag (.fits lane)
    else if option = 0x01#8 then .laneQueryClear h tag (.fits lane)
    else .laneQuery h tag .misfit
  | _ => .laneQuery h tag .misfit

/-- The request of a code and a payload, or none where the code is no request of the catalogue (R164). -/
def decodeRequest (h : HostId) (tag code : Byte) (p : List Byte) (fda : Level) : Option Instr :=
  match code.toNat with
  | 0x10 => some (.laneClaim h tag (decodeClaim p))
  | 0x11 => some (.laneRelease h tag (decodeByte p))
  | 0x12 => some (.laneHandover h tag (decodeHandover p))
  | 0x13 => some (.laneAdopt h tag (decodeByte p))
  | 0x14 => some (.laneConfig h tag (decodeConfigArgs p))
  | 0x15 => some (.laneArm h tag (decodeByte p))
  | 0x16 => some (.laneDisarm h tag (decodeByte p))
  | 0x17 => some (.laneRun h tag (decodeByte p))
  | 0x18 => some (.laneStop h tag (decodeByte p))
  | 0x19 => some (decodeQuery h tag p)
  | 0x20 => some (.progAppend h tag (decodeAppend p))
  | 0x21 => some (.progInsert h tag (decodePlace p))
  | 0x22 => some (.progReplace h tag (decodePlace p))
  | 0x23 => some (.progRemove h tag (decodeRemove p))
  | 0x24 => some (.progClear h tag (decodeByte p))
  | 0x25 => some (.progPatch h tag (decodePatch p))
  | 0x26 => some (.progRead h tag (decodeRead p))
  | 0x30 => some (.resultRead h tag (decodeResult p))
  | 0x31 => some (.resultWatch h tag (decodeByte p))
  | 0x32 => some (.resultUnwatch h tag (decodeByte p))
  | 0x38 => some (.eventFetch h tag (decodeByte p))
  | 0x39 => some (.eventMask h tag (decodeMask p))
  | 0x40 => some (.directSubmit h tag (decodeDirect p))
  | 0x48 => some (.linkEnable h tag (decodeNone p) fda)
  | 0x49 => some (.linkDisable h tag (decodeNone p))
  | 0x4A => some (.linkReset h tag (decodeNone p) fda)
  | 0x50 => some (.leaseTake h tag (decodeNone p))
  | 0x51 => some (.leaseRenew h tag (decodeNone p))
  | 0x52 => some (.leaseDrop h tag (decodeNone p))
  | 0x58 => some (.timerSet h tag (decodeTimer p))
  | 0x59 => some (.settingsWrite h tag (.ofOption (decodeSettings p)))
  | 0x5A => some (.settingsRead h tag (decodeNone p))
  | 0x5F => some (.deviceQuery h tag (decodeNone p))
  | _ => none

/-! The encoder: a request spelled as the formats give it. -/

/-- A count as its length byte. -/
def byteOf (n : Nat) : Byte := BitVec.ofNat 8 n

/-- A step encoding (R173). -/
def encodeRawStep : RawStep → List Byte
  | .read seg st idx count into => [0x01#8, seg, st, idx, count, into]
  | .write seg st idx into data => [0x02#8, seg, st, idx, into, byteOf data.length] ++ data
  | .broadcast seg idx into data => [0x03#8, seg, idx, into, byteOf data.length] ++ data
  | .copy seg st idx lane record into => [0x04#8, seg, st, idx, lane, record, into]
  | .brk tag => [0x05#8, tag]
  | .unknown kind rest => kind :: rest

/-- A configuration entry. -/
def encodeConfig : RawConfig → List Byte
  | .priority v => [0x01#8, v]
  | .source kind detail => [0x02#8, kind, detail]
  | .mode v => [0x03#8, v]
  | .resume v => [0x04#8, v]
  | .onError v => [0x05#8, v]
  | .limit v => [0x06#8, v]
  | .interval v => [0x07#8, v]

/-- A settings entry. -/
def encodeSetting : RawSetting → List Byte
  | .lineRate v => [0x01#8, v]
  | .replyTimeout v => [0x02#8, v]
  | .segmentGuard v => [0x03#8, v]
  | .silentThreshold v => [0x04#8, v]
  | .probeInterval v => [0x05#8, v]
  | .quota h v => byteOf (6 + h.val) :: bytes16 v

/-- A request as its frame carries it. -/
structure RequestFrame where
  host : HostId
  tag : Byte
  code : Byte
  payload : List Byte
  deriving DecidableEq, Repr

/-- The frame fields of a request whose payload fits its layout; none for every other command. -/
def encodeRequest : Instr → Option RequestFrame
  | .laneClaim h tag (.fits (.lane n)) => some ⟨h, tag, 0x10#8, [n]⟩
  | .laneClaim h tag (.fits .any) => some ⟨h, tag, 0x10#8, [0xFF#8]⟩
  | .laneRelease h tag (.fits l) => some ⟨h, tag, 0x11#8, [l]⟩
  | .laneHandover h tag (.fits a) => some ⟨h, tag, 0x12#8, [a.lane, a.target]⟩
  | .laneAdopt h tag (.fits l) => some ⟨h, tag, 0x13#8, [l]⟩
  | .laneConfig h tag (.fits a) => some ⟨h, tag, 0x14#8, a.lane :: a.entries.flatMap encodeConfig⟩
  | .laneArm h tag (.fits l) => some ⟨h, tag, 0x15#8, [l]⟩
  | .laneDisarm h tag (.fits l) => some ⟨h, tag, 0x16#8, [l]⟩
  | .laneRun h tag (.fits l) => some ⟨h, tag, 0x17#8, [l]⟩
  | .laneStop h tag (.fits l) => some ⟨h, tag, 0x18#8, [l]⟩
  | .laneQuery h tag (.fits l) => some ⟨h, tag, 0x19#8, [l, 0x00#8]⟩
  | .laneQueryClear h tag (.fits l) => some ⟨h, tag, 0x19#8, [l, 0x01#8]⟩
  | .progAppend h tag (.fits a) => some ⟨h, tag, 0x20#8, a.lane :: a.steps.flatMap encodeRawStep⟩
  | .progInsert h tag (.fits a) => some ⟨h, tag, 0x21#8, a.lane :: a.position :: encodeRawStep a.step⟩
  | .progReplace h tag (.fits a) => some ⟨h, tag, 0x22#8, a.lane :: a.position :: encodeRawStep a.step⟩
  | .progRemove h tag (.fits a) => some ⟨h, tag, 0x23#8, [a.lane, a.position]⟩
  | .progClear h tag (.fits l) => some ⟨h, tag, 0x24#8, [l]⟩
  | .progPatch h tag (.fits a) => some ⟨h, tag, 0x25#8, [a.lane, a.position, byteOf a.data.length] ++ a.data⟩
  | .progRead h tag (.fits a) => some ⟨h, tag, 0x26#8, [a.lane, a.first, a.count]⟩
  | .resultRead h tag (.fits a) =>
    some ⟨h, tag, 0x30#8, [a.lane, a.first, a.count] ++ (a.newerThan.map bytes16).getD []⟩
  | .resultWatch h tag (.fits l) => some ⟨h, tag, 0x31#8, [l]⟩
  | .resultUnwatch h tag (.fits l) => some ⟨h, tag, 0x32#8, [l]⟩
  | .eventFetch h tag (.fits n) => some ⟨h, tag, 0x38#8, [n]⟩
  | .eventMask h tag (.fits a) => some ⟨h, tag, 0x39#8, bytes16 a.mask ++ [a.enable]⟩
  | .directSubmit h tag (.fits a) =>
    some ⟨h, tag, 0x40#8, [a.limit, a.interval, a.hostTag] ++ encodeRawStep a.step⟩
  | .linkEnable h tag (.fits _) _ => some ⟨h, tag, 0x48#8, []⟩
  | .linkDisable h tag (.fits _) => some ⟨h, tag, 0x49#8, []⟩
  | .linkReset h tag (.fits _) _ => some ⟨h, tag, 0x4A#8, []⟩
  | .leaseTake h tag (.fits _) => some ⟨h, tag, 0x50#8, []⟩
  | .leaseRenew h tag (.fits _) => some ⟨h, tag, 0x51#8, []⟩
  | .leaseDrop h tag (.fits _) => some ⟨h, tag, 0x52#8, []⟩
  | .timerSet h tag (.fits a) => some ⟨h, tag, 0x58#8, [a.timer, a.command] ++ (a.period.map bytes16).getD []⟩
  | .settingsWrite h tag (.fits a) => some ⟨h, tag, 0x59#8, a.flatMap encodeSetting⟩
  | .settingsRead h tag (.fits _) => some ⟨h, tag, 0x5A#8, []⟩
  | .deviceQuery h tag (.fits _) => some ⟨h, tag, 0x5F#8, []⟩
  | _ => none

/-- The level of FDA that the command reads, where it is a request that reads one. -/
def readsFda (i : Instr) (fda : Level) : Bool :=
  match i with
  | .linkEnable _ _ _ v => v == fda
  | .linkReset _ _ _ v => v == fda
  | _ => true

/-- The request bytes of a frame: code, tag, length, payload and check byte (R161). -/
def frameBytes (code tag : Byte) (payload : List Byte) : List Byte :=
  let body := code :: tag :: byteOf payload.length :: payload
  body ++ [crc body]

end Sys2Proof
end

