-- ==== Sys2Proof/Config.lean ====
section
/-! DEFINITION. The figures of the part that no request changes. The spec leaves no value of the FS-48 undefined, so
no free value stands here (log 29). -/

namespace Sys2Proof.Config

/-- Step records in the pool (R3). -/
def poolSize : Nat := 256

/-- Steps a lane program may hold (R4). -/
def programMax : Nat := 64

/-- Requests a direct queue may hold (R74). -/
def directMax : Nat := 4

/-- Records an event queue may hold (R136). -/
def queueMax : Nat := 16

/-- Where overrun and lost counts saturate (R47, R139). -/
def countMax : Nat := 255

/-- Where a station's failure count saturates (R97). -/
def failureMax : Nat := 15

/-- The response expiry, 20 ms, in microseconds (R168). -/
def expiryTime : Nat := 20000

/-- The lease time, 2000 ms, in microseconds (R150). -/
def leaseTime : Nat := 2000000

/-- The recovery watch, 10 ms, in microseconds (R94). -/
def watchTime : Nat := 10000

/-- One unit of an interval timer's period, in microseconds (R53). -/
def timerUnit : Nat := 100

/-- One unit of a retry interval, in microseconds (R70). -/
def retryUnit : Nat := 50

/-- One unit of the probe interval, in microseconds (R80). -/
def probeUnit : Nat := 10000

/-- One unit of the reply timeout and of the segment guard, in microseconds (R154). -/
def lineUnit : Nat := 10

/-- The inter-frame gap and the hold of a line reset, in bit times (R87, R92). -/
def gapBits : Nat := 4

/-- The low drive of a line reset, in bit times (R92). -/
def driveBits : Nat := 32

/-- A request frame without data, in bit times (R83). -/
def frameBits : Nat := 34

/-- The byte the part clocks out where it has nothing to say (R161, R169, R171). -/
def filler : Byte := 0xFF#8

/-- The part code (R159). -/
def partCode : BitVec 16 := 0x0A48#16

/-- The revision (R159). -/
def revision : Byte := 0x01#8

end Sys2Proof.Config
end

