-- ==== Sys2Proof/Machine/State.lean ====
section
/-! DEFINITION. The state of the FS-48: what each block of the part holds, as plain data, and the state at power-on. -/

namespace Sys2Proof.Machine

/-! ### Steps and programs (R1, R4) -/

/-- A valid step of a program or of a direct request. A READ of a lane program has an into; a direct READ has none
(R74). -/
inductive Step where
  | read (segment : SegmentId) (station : StationId) (index : Byte) (count : Nat) (into : Option RecordId)
  | write (segment : SegmentId) (station : StationId) (index : Byte) (data : List Byte) (into : Option RecordId)
  | broadcast (segment : SegmentId) (index : Byte) (data : List Byte) (into : Option RecordId)
  | copy (segment : SegmentId) (station : StationId) (index : Byte) (source : LaneId) (record : RecordId)
      (into : Option RecordId)
  | brk (tag : Byte)
  deriving DecidableEq, Repr

/-! ### Lanes (R20 to R22) -/

/-- Who has the say over a lane; the owner is present in OWNED alone (R21). -/
inductive Condition where
  | free
  | owned (owner : HostId)
  | orphan
  deriving DecidableEq, Repr

/-- The ten run states, in the order of their table. -/
inductive RunState where
  | idle
  | armed
  | bankWait
  | ready
  | running
  | suspended
  | retryWait
  | atBreak
  | stopping
  | halted
  deriving DecidableEq, Repr

/-- The edges an EDGE source listens to (R52). -/
inductive EdgeKind where
  | rising
  | falling
  | both
  deriving DecidableEq, Repr

/-- What delivers triggers to a lane besides LANE_RUN (R31). -/
inductive TriggerSource where
  | soft
  | timer (t : Fin 4)
  | edge (x : Fin 4) (kind : EdgeKind)
  | chain (y : LaneId)
  deriving DecidableEq, Repr

inductive Mode where
  | single
  | continuous
  deriving DecidableEq, Repr

inductive ResumePolicy where
  | continue
  | restart
  deriving DecidableEq, Repr

inductive ErrorPolicy where
  | skip
  | halt
  deriving DecidableEq, Repr

/-- The seven configuration fields of a lane (R31). -/
structure LaneConfig where
  priority : Fin 4
  source : TriggerSource
  mode : Mode
  resume : ResumePolicy
  onError : ErrorPolicy
  limit : Nat
  interval : Nat
  deriving DecidableEq, Repr

/-- The defaults a lane takes when it is claimed or released (R20). -/
def LaneConfig.default : LaneConfig := ⟨0, .soft, .single, .continue, .skip, 3, 20⟩

/-- What a holder keeps of a step through a retry wait (R107). -/
structure HeldStep where
  attempts : Nat
  fullySent : Bool
  deriving DecidableEq, Repr

/-- A lane record (R20), with the retry timer and the values that R107 keeps beside it. -/
structure Lane where
  condition : Condition
  run : RunState
  config : LaneConfig
  program : List Step
  position : Nat
  pending : Bool
  overrun : Nat
  disarmAtEnd : Bool
  errorCount : Nat
  generation : BitVec 16
  front : Option BankId
  write : Option BankId
  waiting : Bool
  subscribers : HostSet
  held : Option HeldStep
  retryLeft : Nat
  deriving DecidableEq, Repr

/-- A lane record at power-on (R20), which is also what a release leaves (R27) and a claim starts from (R26). -/
def Lane.fresh : Lane where
  condition := .free
  run := .idle
  config := .default
  program := []
  position := 0
  pending := false
  overrun := 0
  disarmAtEnd := false
  errorCount := 0
  generation := 0
  front := none
  write := none
  waiting := false
  subscribers := fill 4 false
  held := none
  retryLeft := 0

/-! ### Results (R118 to R120) -/

/-- How a step ended (R111). -/
inductive StepOutcome where
  | done
  | refused
  | deferred
  | noReply
  | checkFail
  | frameFault
  | stationSilent
  | sourceEmpty
  deriving DecidableEq, Repr

/-- A result record (R119). An absent outcome is NOT_RUN; the data length is the length of the data. -/
structure Record where
  outcome : Option StepOutcome
  attempts : Nat
  data : List Byte
  deriving DecidableEq, Repr

/-- The record of a step that has not run in the pass. -/
def Record.notRun : Record := ⟨none, 0, []⟩

/-- A bank stamp (R120). -/
structure Stamp where
  generation : BitVec 16
  timestamp : BitVec 32
  errors : Nat
  written : Nat
  deriving DecidableEq, Repr

/-- A bank: 64 records and a stamp. -/
structure Bank where
  records : Table 64 Record
  stamp : Stamp
  deriving DecidableEq, Repr

/-- A bank at power-on (R118). -/
def Bank.blank : Bank := ⟨fill 64 .notRun, ⟨0, 0, 0, 0⟩⟩

/-! ### Triggers (R51, R53) -/

/-- A TRG line's sampler: the recognised level, absent until first set, and the sample before the one now taken. -/
structure Sampler where
  level : Option Level
  last : Option Level
  deriving DecidableEq, Repr

/-- An interval timer: period in units of 100 µs, run state, and the µs left to the next expiry while it runs. -/
structure IntervalTimer where
  period : Nat
  running : Bool
  left : Nat
  deriving DecidableEq, Repr

/-! ### Link arbiter and step executor (R58, R74, R80, R99) -/

/-- A direct request (R74), with what R107 keeps of it through waits. `retryLeft` is present in retry wait. -/
structure DirectRequest where
  step : Step
  limit : Nat
  interval : Nat
  hostTag : Byte
  attempts : Nat
  fullySent : Bool
  retryLeft : Option Nat
  deriving DecidableEq, Repr

/-- The probe schedule (R80, R81). `left` is absent when the timer has stopped. -/
structure Probe where
  due : Bool
  left : Option Nat
  last : Option (SegmentId × StationId)
  deriving DecidableEq, Repr

/-- Who holds the grant and brings the step in execution (R99). A direct request whose port was reset while its attempt
is in flight is `discarded` (R78). -/
inductive Holder where
  | lane (l : LaneId)
  | direct (h : HostId)
  | discarded
  | probe
  deriving DecidableEq, Repr

/-- The data and toggle taken at a frame start (R99). -/
structure Captured where
  data : List Byte
  toggle : Bool
  deriving DecidableEq, Repr

/-- The step in execution (R99). `inFlight` says that an attempt of it has begun and has not ended. -/
structure Execution where
  holder : Holder
  step : Step
  limit : Nat
  interval : Nat
  attempts : Nat
  fullySent : Bool
  inFlight : Bool
  captured : Captured
  deriving DecidableEq, Repr

/-! ### The field line (R86, R92, R96) -/

/-- Where the line reset sequence stands on the present segment (R92). -/
inductive ResetPhase where
  | segmentGuard
  | drive
  | hold
  deriving DecidableEq, Repr

/-- The nine link states (R86). AWAIT_REPLY says whether a start mark has begun, from when on the reply timeout no longer
applies (R84); LINE_RESET says where the sequence stands. -/
inductive LinkState where
  | off
  | idle
  | switching
  | sending
  | awaitReply (marked : Bool)
  | receiving
  | gap
  | lineReset (phase : ResetPhase)
  | faulted
  deriving DecidableEq, Repr

/-- An entry of the station table (R96). -/
structure Station where
  silent : Bool
  failures : Nat
  toggle : Bool
  deriving DecidableEq, Repr

/-- An entry at power-on and after a completed line reset: PRESENT, 0, 0. -/
def Station.fresh : Station := ⟨false, 0, false⟩

/-- The station table at power-on. -/
def freshStations : Table 4 (Table 31 Station) := fill 4 (fill 31 .fresh)

/-! ### Events (R137) -/

/-- The thirteen kinds of event with the fields each carries. -/
inductive EventBody where
  | passDone (lane : LaneId) (generation : BitVec 16) (errors : Nat)
  | passAbandoned (lane : LaneId) (position : Nat)
  | stepError (lane : LaneId) (position : Nat) (outcome : StepOutcome) (attempts : Nat)
  | laneHalted (lane : LaneId) (position : Nat) (outcome : StepOutcome)
  | triggerOverrun (lane : LaneId)
  | breakReached (lane : LaneId) (position : Nat) (tag : Byte)
  | laneOrphaned (lane : LaneId)
  | directDone (hostTag : Byte) (outcome : StepOutcome) (attempts : Nat) (data : Option (List Byte))
  | stationSilent (segment : SegmentId) (station : StationId)
  | stationBack (segment : SegmentId) (station : StationId)
  | linkFault
  | linkRecovered
  | leaseExpired
  deriving DecidableEq, Repr

/-- An event record: its fields and the timestamp at which it was queued. -/
structure Event where
  time : BitVec 32
  body : EventBody
  deriving DecidableEq, Repr

/-- What the notification unit holds for one port (R136). Bit k of the mask enables kind code k. -/
structure Mailbox where
  queue : List Event
  mask : BitVec 16
  enable : Bool
  lost : Nat
  deriving DecidableEq, Repr

/-- A port's notifications at power-on and after its reset (R136, R147). -/
def Mailbox.fresh : Mailbox := ⟨[], 0x3FFE#16, true, 0⟩

/-! ### Settings (R154) -/

/-- The four line rates, in kbit/s. -/
inductive LineRate where
  | k125
  | k250
  | k500
  | k1000
  deriving DecidableEq, Repr

/-- The settings record. -/
structure Settings where
  lineRate : LineRate
  replyTimeout : Nat
  segmentGuard : Nat
  silentThreshold : Nat
  probeInterval : Nat
  quota : Table 4 Nat
  deriving DecidableEq, Repr

/-- The defaults every field takes at power-on (R154). -/
def Settings.default : Settings := ⟨.k250, 10, 5, 4, 10, fill 4 64⟩

/-! ### Host ports (R160) -/

/-- The response status codes. -/
inductive Status where
  | ok
  | badFrame
  | unknownRequest
  | badArgument
  | notOwner
  | laneState
  | noLane
  | empty
  | noStep
  | quota
  | programFull
  | noData
  | notNewer
  | directFull
  | noLease
  | leaseHeld
  | linkActive
  | targetAbsent
  deriving DecidableEq, Repr

/-- The effect of a LANE_RUN's arrival (R50). -/
inductive RunEffect where
  | started
  | continued
  | pending
  | overrun
  | ignored
  deriving DecidableEq, Repr

/-- The fields LANE_QUERY returns (R39). -/
structure LaneInfo where
  condition : Condition
  run : RunState
  config : LaneConfig
  length : Nat
  position : Nat
  pending : Bool
  overrun : Nat
  disarmAtEnd : Bool
  errorCount : Nat
  generation : BitVec 16
  front : Option BankId
  write : Option BankId
  subscribers : HostSet
  deriving DecidableEq, Repr

/-- The fields DEVICE_QUERY returns beside the identity (R159). -/
structure DeviceInfo where
  freeCount : Nat
  timestamp : BitVec 32
  link : LinkState
  lease : Option HostId
  deriving DecidableEq, Repr

/-- The values a response carries, by the rule that lists them. `results` and `events` name their source: their records
are drawn from the pinned bank and from the head of the event queue (R165). -/
inductive Reply where
  | nothing
  | edited (length usage free : Nat)
  | patched (position length : Nat)
  | steps (length first : Nat) (steps : List Step)
  | claimed (l : LaneId)
  | released (freed : Nat)
  | usage (n : Nat)
  | adopted (length usage : Nat)
  | config (c : LaneConfig)
  | armed (length : Nat)
  | ran (effect : RunEffect) (run : RunState)
  | stopped (run : RunState)
  | laneInfo (i : LaneInfo)
  | results (l : LaneId) (b : BankId) (first count : Nat)
  | notNewer (generation : BitVec 16)
  | subscribers (hosts : HostSet)
  | events (count lost remaining : Nat)
  | mask (mask : BitVec 16) (enable : Bool)
  | queued (length : Nat)
  | link (st : LinkState)
  | leaseTaken
  | leaseRenewed
  | leaseHolder (h : HostId)
  | timer (t : Fin 4) (running : Bool) (period : Nat)
  | settings (r : Settings)
  | settingsUsage (r : Settings) (usage : Table 4 Nat)
  | device (i : DeviceInfo)
  deriving DecidableEq, Repr

/-- A response: status code, tag of the request it answers, and payload (R160). -/
structure Response where
  status : Status
  tag : Byte
  reply : Reply
  deriving DecidableEq, Repr

/-- What a held response waits for (R165): a lane to leave STOPPING, or the link to go OFF. -/
inductive HeldKind where
  | laneStop (l : LaneId)
  | linkOff
  deriving DecidableEq, Repr

/-- A request in progress. -/
structure HeldRequest where
  tag : Byte
  kind : HeldKind
  deriving DecidableEq, Repr

/-- The four port states; a request in progress is present in BUSY and a response in RESPONSE_READY alone. -/
inductive PortState where
  | idle
  | busy (r : HeldRequest)
  | ready (r : Response)
  | inReset
  deriving DecidableEq, Repr

/-- The four sticky flags (R162). -/
structure Sticky where
  truncated : Bool
  dropped : Bool
  lostResponse : Bool
  expired : Bool
  deriving DecidableEq, Repr

/-- Every sticky flag clear. -/
def Sticky.clear : Sticky := ⟨false, false, false, false⟩

/-- A frame in progress: the sticky flags its status byte reports, whether that byte has been clocked out whole, whether
the frame began with the port's response, and the bytes the part shifts out before the filler (R161, R162). -/
structure Frame where
  reported : Sticky
  statusDone : Bool
  carries : Bool
  out : List Byte
  deriving DecidableEq, Repr

/-- A port's chip select: high, low in a frame the port ignores to its end (R171), or low in a frame. -/
inductive FrameState where
  | none
  | ignored
  | inFrame (f : Frame)
  deriving DecidableEq, Repr

/-- What the host port unit holds for one port (R160). -/
structure Port where
  state : PortState
  prst : Level
  frame : FrameState
  expiry : Nat
  sticky : Sticky
  pin : Option (LaneId × BankId)
  deriving DecidableEq, Repr

/-- A port at power-on (R160, R172), with its input pins high (log 1). -/
def Port.fresh : Port := ⟨.inReset, .high, .none, 0, .clear, none⟩

/-! ### The whole part -/

/-- The state of the part: the port unit, the step pool, the lane table, the result store, the trigger unit, the
arbiter, the executor, the field line controller, the notification unit and the settings unit, and the queue of the
commands that wait. -/
structure State where
  porLow : Bool
  ports : Table 4 Port
  freeCount : Nat
  usage : Table 4 Nat
  lanes : Table 8 Lane
  banks : Table 8 (Table 3 Bank)
  samplers : Table 4 Sampler
  timers : Table 4 IntervalTimer
  chainDue : List LaneId
  directPtr : Option HostId
  lanePtr : Table 4 (Option LaneId)
  direct : Table 4 (List DirectRequest)
  probe : Probe
  exec : Option Execution
  link : LinkState
  phaseLeft : Nat
  segment : SegmentId
  stations : Table 4 (Table 31 Station)
  faultAnnounced : Bool
  disableWaiting : Bool
  watchLeft : Nat
  fda : Level
  mail : Table 4 Mailbox
  settings : Settings
  lease : Option HostId
  leaseLeft : Nat
  timestamp : BitVec 32
  pending : List Instr
  deriving DecidableEq, Repr

/-- No command of this block stops it with a fault: a line fault is a state of the link (R94), and every command has a
next state. The type has no constructor, so nothing raises one; that is safe. -/
inductive Fault where
  deriving DecidableEq, Repr

/-- The reasons to refuse a command. -/
inductive Refusal where
  /-- Raised by `exec` alone, for a row of the table whose meaning is not written. Safe: the model stops. No arm of
  this model raises it. -/
  | notModelled (mnemonic : String)
  deriving DecidableEq, Repr

/-- What a step answers. -/
abbrev Answered := Host.Outcome State Fault Refusal

/-- The power-on state (R20, R51, R53, R58, R80, R82, R94, R96, R118, R136, R150, R154, R158, R160, R172): PORn is
held low, every port is IN_RESET and nothing is queued. The levels of the input pins are the model's (log 1). -/
def State.reset : State where
  porLow := true
  ports := fill 4 .fresh
  freeCount := Config.poolSize
  usage := fill 4 0
  lanes := fill 8 .fresh
  banks := fill 8 (fill 3 .blank)
  samplers := fill 4 ⟨none, none⟩
  timers := fill 4 ⟨1, false, 0⟩
  chainDue := []
  directPtr := none
  lanePtr := fill 4 none
  direct := fill 4 []
  probe := ⟨false, some (10 * Config.probeUnit), none⟩
  exec := none
  link := .off
  phaseLeft := 0
  segment := 0
  stations := freshStations
  faultAnnounced := false
  disableWaiting := false
  watchLeft := 0
  fda := .high
  mail := fill 4 .fresh
  settings := .default
  lease := none
  leaseLeft := 0
  timestamp := 0
  pending := []

end Sys2Proof.Machine
end

