-- ==== Sys2Proof/Machine/Ops.lean ====
section
/-! DEFINITION. The named operations over the tables of the state: reading and writing an entry, queuing an event,
choosing and clearing a bank, pins, and the accounting of the step pool. -/

namespace Sys2Proof.Machine

/-! ### Entries of the tables -/

def State.port (s : State) (h : HostId) : Port := look s.ports h

def State.setPort (s : State) (h : HostId) (p : Port) : State := { s with ports := put s.ports h p }

def State.lane (s : State) (l : LaneId) : Lane := look s.lanes l

def State.setLane (s : State) (l : LaneId) (x : Lane) : State := { s with lanes := put s.lanes l x }

def State.bank (s : State) (l : LaneId) (b : BankId) : Bank := look (look s.banks l) b

def State.setBank (s : State) (l : LaneId) (b : BankId) (x : Bank) : State :=
  { s with banks := put s.banks l (put (look s.banks l) b x) }

def State.mailbox (s : State) (h : HostId) : Mailbox := look s.mail h

def State.setMailbox (s : State) (h : HostId) (m : Mailbox) : State := { s with mail := put s.mail h m }

def State.station (s : State) (seg : SegmentId) (st : StationId) : Station := look (look s.stations seg) st

def State.setStation (s : State) (seg : SegmentId) (st : StationId) (x : Station) : State :=
  { s with stations := put s.stations seg (put (look s.stations seg) st x) }

def State.directQueue (s : State) (h : HostId) : List DirectRequest := look s.direct h

def State.setDirectQueue (s : State) (h : HostId) (q : List DirectRequest) : State :=
  { s with direct := put s.direct h q }

def State.timer (s : State) (t : Fin 4) : IntervalTimer := look s.timers t

def State.setTimer (s : State) (t : Fin 4) (x : IntervalTimer) : State := { s with timers := put s.timers t x }

def State.usageOf (s : State) (h : HostId) : Nat := look s.usage h

def State.quotaOf (s : State) (h : HostId) : Nat := look s.settings.quota h

/-- An act on each port in increasing order. -/
def eachHost (f : HostId → State → State) (s : State) : State := f 3 (f 2 (f 1 (f 0 s)))

/-- An act on each lane in increasing order. -/
def eachLane (f : LaneId → State → State) (s : State) : State :=
  f 7 (f 6 (f 5 (f 4 (f 3 (f 2 (f 1 (f 0 s)))))))

/-- The owner of a lane, present in OWNED alone (R21). -/
def Lane.owner (x : Lane) : Option HostId :=
  match x.condition with
  | .owned h => some h
  | _ => none

/-- The port is IN_RESET. -/
def State.inReset (s : State) (h : HostId) : Bool := (s.port h).state == .inReset

/-! ### Events (R137 to R140) -/

/-- The kind code of an event. -/
def EventBody.kind : EventBody → Nat
  | .passDone .. => 1
  | .passAbandoned .. => 2
  | .stepError .. => 3
  | .laneHalted .. => 4
  | .triggerOverrun .. => 5
  | .breakReached .. => 6
  | .laneOrphaned .. => 7
  | .directDone .. => 8
  | .stationSilent .. => 9
  | .stationBack .. => 10
  | .linkFault => 11
  | .linkRecovered => 12
  | .leaseExpired => 13

/-- A count that saturates (R47, R139). -/
def satSucc (n : Nat) : Nat := if n < Config.countMax then n + 1 else n

/-- Queuing a record at one port: mask, room, append (R139). -/
def Mailbox.record (m : Mailbox) (e : Event) : Mailbox :=
  if m.mask.getLsbD e.body.kind = false then m
  else if Config.queueMax ≤ m.queue.length then { m with lost := satSucc m.lost }
  else { m with queue := m.queue ++ [e] }

/-- An event sent to one port; a port IN_RESET is left out of every set of recipients (R138). -/
def State.queueEvent (s : State) (h : HostId) (body : EventBody) : State :=
  if s.inReset h then s else s.setMailbox h ((s.mailbox h).record ⟨s.timestamp, body⟩)

/-- An event sent to every port not in reset (R138). -/
def State.queueAll (s : State) (body : EventBody) : State := eachHost (fun h s => s.queueEvent h body) s

/-- An event sent to a lane's owner; a lane without an owner has no recipient (R138). -/
def State.queueOwner (s : State) (l : LaneId) (body : EventBody) : State :=
  match (s.lane l).owner with
  | some h => s.queueEvent h body
  | none => s

/-- An event sent to every subscriber of a lane (R149). -/
def State.queueSubscribers (s : State) (l : LaneId) (body : EventBody) : State :=
  eachHost (fun h s => if look (s.lane l).subscribers h then s.queueEvent h body else s) s

/-! ### Banks and pins (R118, R121, R122, R129, R130) -/

/-- Some port holds a pin on the bank: its pin set is not empty. -/
def State.pinned (s : State) (l : LaneId) (b : BankId) : Bool := allHosts.any fun h => (s.port h).pin == some (l, b)

/-- The choice of a write bank: the lowest that is neither front nor pinned (R121). -/
def State.chooseBank (s : State) (l : LaneId) : Option BankId :=
  allBanks.find? fun b => (s.lane l).front != some b && !s.pinned l b

/-- All 64 records of a bank set to NOT_RUN; its stamp stays (R120, R121). -/
def State.clearBank (s : State) (l : LaneId) (b : BankId) : State :=
  s.setBank l b { s.bank l b with records := fill 64 .notRun }

/-- The lane asks for a write bank: READY with the bank chosen, or BANK_WAIT with the waiting mark set (R45, R121,
R122). -/
def State.takeBank (s : State) (l : LaneId) : State :=
  match s.chooseBank l with
  | some b =>
    let s := s.clearBank l b
    s.setLane l { s.lane l with run := .ready, write := some b, waiting := false }
  | none => s.setLane l { s.lane l with run := .bankWait, waiting := true }

/-- A port's pin leaves the pin set of its bank; a lane waiting for one of its banks makes its choice again (R130,
R122). -/
def State.releasePin (s : State) (h : HostId) : State :=
  match (s.port h).pin with
  | none => s
  | some (l, _) =>
    let s := s.setPort h { s.port h with pin := none }
    if (s.lane l).waiting then s.takeBank l else s

/-! ### Step pool (R3, R5) -/

/-- A host gains `k` steps from the free set (R3, R5). -/
def State.placeSteps (s : State) (h : HostId) (k : Nat) : State :=
  { s with freeCount := s.freeCount - k, usage := put s.usage h (s.usageOf h + k) }

/-- A host's `k` steps go back to the free set (R3, R5). -/
def State.freeSteps (s : State) (h : HostId) (k : Nat) : State :=
  { s with freeCount := s.freeCount + k, usage := put s.usage h (s.usageOf h - k) }

/-- A host's usage rises by `k` with no step placed (R5: handover, adoption). -/
def State.gainUsage (s : State) (h : HostId) (k : Nat) : State :=
  { s with usage := put s.usage h (s.usageOf h + k) }

/-- A host's usage falls by `k` with no step freed (R5: handover, orphaning). -/
def State.loseUsage (s : State) (h : HostId) (k : Nat) : State :=
  { s with usage := put s.usage h (s.usageOf h - k) }

/-! ### Times -/

/-- A bit time in microseconds (R82). -/
def LineRate.bitTime : LineRate → Nat
  | .k125 => 8
  | .k250 => 4
  | .k500 => 2
  | .k1000 => 1

/-- A number of bit times in microseconds at the line rate of the settings. -/
def State.bits (s : State) (n : Nat) : Nat := n * s.settings.lineRate.bitTime

/-- The segment guard in microseconds (R88). -/
def State.guardTime (s : State) : Nat := s.settings.segmentGuard * Config.lineUnit

/-- The reply timeout in microseconds (R84). -/
def State.replyTime (s : State) : Nat := s.settings.replyTimeout * Config.lineUnit

/-- The probe interval in microseconds (R80). -/
def State.probeTime (s : State) : Nat := s.settings.probeInterval * Config.probeUnit

/-! ### Steps -/

/-- The segment a step addresses; a BREAK addresses none and is never put into execution (R100). -/
def Step.segment : Step → Option SegmentId
  | .read seg .. => some seg
  | .write seg .. => some seg
  | .broadcast seg .. => some seg
  | .copy seg .. => some seg
  | .brk _ => none

/-- The station a step addresses; a BROADCAST and a BREAK address none. -/
def Step.station : Step → Option (SegmentId × StationId)
  | .read seg st .. => some (seg, st)
  | .write seg st .. => some (seg, st)
  | .copy seg st .. => some (seg, st)
  | _ => none

/-- The result record a step writes, where it has an into. -/
def Step.into : Step → Option RecordId
  | .read _ _ _ _ into => into
  | .write _ _ _ _ into => into
  | .broadcast _ _ _ into => into
  | .copy _ _ _ _ _ into => into
  | .brk _ => none

/-- The station whose write toggle the step's frames carry: a WRITE or a COPY (R98). -/
def Step.toggles : Step → Option (SegmentId × StationId)
  | .write seg st .. => some (seg, st)
  | .copy seg st .. => some (seg, st)
  | _ => none

/-- The step expects no reply. -/
def Step.isBroadcast : Step → Bool
  | .broadcast .. => true
  | _ => false

/-- The write toggle of a step's station flips where the fully-sent mark is set (R98). -/
def State.settleToggle (s : State) (st : Step) (fullySent : Bool) : State :=
  match st.toggles with
  | some (seg, n) =>
    if fullySent then s.setStation seg n { s.station seg n with toggle := !(s.station seg n).toggle } else s
  | none => s

end Sys2Proof.Machine
end

