-- ==== Sys2Proof/Machine/Flags.lean ====
section
/-! DEFINITION. Flags and output pins: the port status byte and its sticky flags (R162), NIRQ (R141), and what the part
drives on the field line (R82, R86). -/

namespace Sys2Proof.Machine

/-- The flags that are set in `a` and not in `reported`: what is left after a status byte has gone out (R162). -/
def Sticky.without (a reported : Sticky) : Sticky :=
  ⟨a.truncated && !reported.truncated, a.dropped && !reported.dropped, a.lostResponse && !reported.lostResponse,
    a.expired && !reported.expired⟩

/-- The port is RESPONSE_READY. -/
def Port.isReady (p : Port) : Bool :=
  match p.state with
  | .ready _ => true
  | _ => false

/-- The port is BUSY. -/
def Port.isBusy (p : Port) : Bool :=
  match p.state with
  | .busy _ => true
  | _ => false

/-- A frame in progress began with the port's response: its expiry timer is stopped (R168). -/
def Port.clocksOut (p : Port) : Bool :=
  match p.frame with
  | .inFrame f => f.carries
  | _ => false

/-- The port status byte: RESPONSE_READY, BUSY, EVENTS, LEASE, TRUNCATED, DROPPED, LOST_RESPONSE, EXPIRED from bit 7
down (R162). -/
def State.statusByte (s : State) (h : HostId) : Byte :=
  let p := s.port h
  BitVec.ofBoolListBE [p.isReady, p.isBusy, !(s.mailbox h).queue.isEmpty, s.lease == some h,
    p.sticky.truncated, p.sticky.dropped, p.sticky.lostResponse, p.sticky.expired]

/-- The NIRQ output of a port is driven low (R141): the queue holds a record, the enable is on and the port is not in
reset. -/
def State.nirqLow (s : State) (h : HostId) : Bool :=
  !s.inReset h && (s.mailbox h).enable && !(s.mailbox h).queue.isEmpty

/-- FCK runs (R86, R92): in a frame, while a reply is awaited or received, and during the low drive of a line reset. -/
def State.fckRuns (s : State) : Bool :=
  match s.link with
  | .sending | .awaitReply _ | .receiving | .lineReset .drive => true
  | _ => false

/-- The part leaves FDA released (R86, R92): always but in a request frame and in the low drive of a line reset. -/
def State.fdaReleased (s : State) : Bool :=
  match s.link with
  | .sending | .lineReset .drive => false
  | _ => true

/-- Byte `i` that the part clocks out of a port's frame in progress (R161): the status byte, the response the frame began
with, and filler after them; filler alone in a frame that the port ignores (R171). None where no frame is in progress. -/
def Port.sends (p : Port) (i : Nat) : Option Byte :=
  match p.frame with
  | .inFrame f => some (f.out.getD i Config.filler)
  | .ignored => some Config.filler
  | .none => none

end Sys2Proof.Machine
end

