-- ==== Sys2Proof/Machine/Operands.lean ====
section
/-! DEFINITION. The operands of requests: the ranges the rules give them, judged here, once. Each reader answers none
where the rule refuses the operand with BAD_ARGUMENT. -/

namespace Sys2Proof.Machine

/-- A byte as a number below `n`. -/
def small (n : Nat) (b : Byte) : Option (Fin n) := if h : b.toNat < n then some ⟨b.toNat, h⟩ else none

/-- A lane number (R24). -/
def laneNo (b : Byte) : Option LaneId := small 8 b

/-- A target host (R24). -/
def hostNo (b : Byte) : Option HostId := small 4 b

/-- An optional into: FFh is absent, 00h to 3Fh a record (R174). -/
def intoOf (b : Byte) : Option (Option RecordId) :=
  if b = 0xFF#8 then some none else (small 64 b).map some

/-- A data list of 1 to 8 bytes (R1). -/
def dataOk (data : List Byte) : Bool := 1 ≤ data.length && data.length ≤ 8

/-- A count of 1 to 8 (R1). -/
def countOf (b : Byte) : Option Nat := if 1 ≤ b.toNat ∧ b.toNat ≤ 8 then some b.toNat else none

/-- A step as the tables of R1 allow it, but for the READ's into. -/
def RawStep.checked : RawStep → Option Step
  | .read seg st idx count into =>
    match small 4 seg, small 31 st, countOf count, intoOf into with
    | some seg, some st, some count, some into => some (.read seg st idx count into)
    | _, _, _, _ => none
  | .write seg st idx into data =>
    match small 4 seg, small 31 st, intoOf into with
    | some seg, some st, some into => if dataOk data then some (.write seg st idx data into) else none
    | _, _, _ => none
  | .broadcast seg idx into data =>
    match small 4 seg, intoOf into with
    | some seg, some into => if dataOk data then some (.broadcast seg idx data into) else none
    | _, _ => none
  | .copy seg st idx lane record into =>
    match small 4 seg, small 31 st, small 8 lane, small 64 record, intoOf into with
    | some seg, some st, some lane, some record, some into => some (.copy seg st idx lane record into)
    | _, _, _, _, _ => none
  | .brk tag => some (.brk tag)
  | .unknown .. => none

/-- A READ of a program has an into (R1). -/
def Step.readHasInto : Step → Bool
  | .read _ _ _ _ none => false
  | _ => true

/-- A valid step of a program (R1, R2): a COPY is checked against the ranges of its fields only. -/
def validStep (r : RawStep) : Option Step :=
  match RawStep.checked r with
  | some st => if st.readHasInto then some st else none
  | none => none

/-- The valid steps of a request, all of them or none (R9). -/
def validSteps : List RawStep → Option (List Step)
  | [] => some []
  | r :: rest =>
    match validStep r, validSteps rest with
    | some st, some sts => some (st :: sts)
    | _, _ => none

/-- The step of a direct request: a READ, WRITE or BROADCAST without into (R75). -/
def directStep (r : RawStep) : Option Step :=
  match RawStep.checked r with
  | some (.read seg st idx count none) => some (.read seg st idx count none)
  | some (.write seg st idx data none) => some (.write seg st idx data none)
  | some (.broadcast seg idx data none) => some (.broadcast seg idx data none)
  | _ => none

/-- A trigger source as one whole value (R31, R174): the number stands in bits 7 to 4 of the second byte, the edge kind
in bits 3 to 0. -/
def sourceOf (kind detail : Byte) : Option TriggerSource :=
  let number := detail.toNat / 16
  let edge := detail.toNat % 16
  match kind.toNat with
  | 0 => if detail = 0x00#8 then some .soft else none
  | 1 => if h : number < 4 then (if edge = 0 then some (.timer ⟨number, h⟩) else none) else none
  | 2 =>
    if h : number < 4 then
      match edge with
      | 1 => some (.edge ⟨number, h⟩ .rising)
      | 2 => some (.edge ⟨number, h⟩ .falling)
      | 3 => some (.edge ⟨number, h⟩ .both)
      | _ => none
    else none
  | 3 => if h : number < 8 then (if edge = 0 then some (.chain ⟨number, h⟩) else none) else none
  | _ => none

/-- The identifier of a configuration entry. -/
def RawConfig.ident : RawConfig → Nat
  | .priority _ => 1
  | .source .. => 2
  | .mode _ => 3
  | .resume _ => 4
  | .onError _ => 5
  | .limit _ => 6
  | .interval _ => 7

/-- One configuration entry applied, or none where its value is out of range (R31). -/
def RawConfig.apply (c : LaneConfig) : RawConfig → Option LaneConfig
  | .priority v => (small 4 v).map fun p => { c with priority := p }
  | .source kind detail => (sourceOf kind detail).map fun t => { c with source := t }
  | .mode v =>
    match v.toNat with
    | 0 => some { c with mode := .single }
    | 1 => some { c with mode := .continuous }
    | _ => none
  | .resume v =>
    match v.toNat with
    | 0 => some { c with resume := .continue }
    | 1 => some { c with resume := .restart }
    | _ => none
  | .onError v =>
    match v.toNat with
    | 0 => some { c with onError := .skip }
    | 1 => some { c with onError := .halt }
    | _ => none
  | .limit v => if 1 ≤ v.toNat ∧ v.toNat ≤ 8 then some { c with limit := v.toNat } else none
  | .interval v => if 1 ≤ v.toNat then some { c with interval := v.toNat } else none

/-- The entries applied in turn, all of them or none. -/
def applyConfig (c : LaneConfig) : List RawConfig → Option LaneConfig
  | [] => some c
  | e :: rest =>
    match RawConfig.apply c e with
    | some c => applyConfig c rest
    | none => none

/-- The configuration after a LANE_CONFIG, or none where an entry is out of range or an identifier stands twice (R31,
R174). -/
def newConfig (c : LaneConfig) (entries : List RawConfig) : Option LaneConfig :=
  if (entries.map RawConfig.ident).Nodup then applyConfig c entries else none

/-- The identifier of a settings entry. -/
def RawSetting.ident : RawSetting → Nat
  | .lineRate _ => 1
  | .replyTimeout _ => 2
  | .segmentGuard _ => 3
  | .silentThreshold _ => 4
  | .probeInterval _ => 5
  | .quota h _ => 6 + h.val

/-- One settings entry applied, or none where its value is out of range (R154, R155). -/
def RawSetting.apply (r : Settings) : RawSetting → Option Settings
  | .lineRate v =>
    match v.toNat with
    | 0 => some { r with lineRate := .k125 }
    | 1 => some { r with lineRate := .k250 }
    | 2 => some { r with lineRate := .k500 }
    | 3 => some { r with lineRate := .k1000 }
    | _ => none
  | .replyTimeout v => if 2 ≤ v.toNat ∧ v.toNat ≤ 50 then some { r with replyTimeout := v.toNat } else none
  | .segmentGuard v => if 1 ≤ v.toNat ∧ v.toNat ≤ 100 then some { r with segmentGuard := v.toNat } else none
  | .silentThreshold v => if 1 ≤ v.toNat ∧ v.toNat ≤ 15 then some { r with silentThreshold := v.toNat } else none
  | .probeInterval v => if 1 ≤ v.toNat then some { r with probeInterval := v.toNat } else none
  | .quota h v => if v.toNat ≤ 256 then some { r with quota := put r.quota h v.toNat } else none

/-- The entries applied in turn, all of them or none. -/
def applySettings (r : Settings) : List RawSetting → Option Settings
  | [] => some r
  | e :: rest =>
    match RawSetting.apply r e with
    | some r => applySettings r rest
    | none => none

/-- The settings record after a SETTINGS_WRITE, or none where a field is out of range or given twice (R155). -/
def newSettings (r : Settings) (entries : List RawSetting) : Option Settings :=
  if (entries.map RawSetting.ident).Nodup then applySettings r entries else none

/-- The entry names the probe interval (R156). -/
def RawSetting.namesProbe : RawSetting → Bool
  | .probeInterval _ => true
  | _ => false

/-- The entry names the quota of a host with a value below a usage (R155). -/
def RawSetting.belowUsage (usage : Table 4 Nat) : RawSetting → Bool
  | .quota h v => v.toNat < look usage h
  | _ => false

/-- The link fields of two settings records agree (R154). -/
def sameLinkFields (a b : Settings) : Bool :=
  a.lineRate == b.lineRate && a.replyTimeout == b.replyTimeout && a.segmentGuard == b.segmentGuard
    && a.silentThreshold == b.silentThreshold

/-- A kind mask names none but the thirteen kinds: bits 0, 14 and 15 are clear (R174). -/
def maskOk (m : BitVec 16) : Bool := m &&& 0xC001#16 == 0#16

end Sys2Proof.Machine
end

