-- ==== Sys2Proof/Machine/Ports.lean ====
section
/-! DEFINITION. Taking a request at a port and giving its response (R163 to R166, R169). Every request row is one line
over `State.request`: the block that owns the state concerned gives a verdict, and the port makes the response of it. -/

namespace Sys2Proof.Machine

/-- How an accepted request is answered (R165): at once, or by a held response. -/
inductive Answer where
  | now (r : Reply)
  | held (k : HeldKind)
  deriving DecidableEq, Repr

/-- What the owning block makes of a request: a refusal, which changes nothing (R8, R24), or the state after its act and
its answer. -/
abbrev Verdict := Except (Status × Reply) (State × Answer)

/-- A refusal with a status code and no values. -/
def refuse (st : Status) : Verdict := .error (st, .nothing)

/-- An accepted request answered at once. -/
def accept (s : State) (r : Reply) : Verdict := .ok (s, .now r)

/-- The response a frame began with is no longer the one at the port. -/
def FrameState.uncarry : FrameState → FrameState
  | .inFrame f => .inFrame { f with carries := false }
  | f => f

/-- An unread response is discarded: its pin is released and LOST_RESPONSE is set (R166). -/
def State.discardUnread (s : State) (h : HostId) : State :=
  let p := s.port h
  match p.state with
  | .ready _ =>
    (s.setPort h { p with
      state := .idle
      frame := p.frame.uncarry
      sticky := { p.sticky with lostResponse := true } }).releasePin h
  | _ => s

/-- The bank a response pins: the one a RESULT_READ is drawn from (R129). -/
def Reply.pins : Reply → Option (LaneId × BankId)
  | .results l b _ _ => some (l, b)
  | _ => none

/-- A response becomes ready with its expiry timer started (R165, R168). -/
def Port.answered (p : Port) (st : Status) (tag : Byte) (r : Reply) : Port :=
  { p with
    state := .ready ⟨st, tag, r⟩
    expiry := Config.expiryTime
    pin := match r.pins with
      | some b => some b
      | none => p.pin }

/-- A response is produced at a port: it replaces an unread one and becomes ready; a RESULT_READ pins its bank after the
old pin has gone (R166, R129). -/
def State.respond (s : State) (h : HostId) (tag : Byte) (st : Status) (r : Reply) : State :=
  let s := s.discardUnread h
  s.setPort h ((s.port h).answered st tag r)

/-- A request whose response is held becomes the port's request in progress (R165). -/
def State.hold (s : State) (h : HostId) (tag : Byte) (k : HeldKind) : State :=
  let s := s.discardUnread h
  s.setPort h { s.port h with state := .busy ⟨tag, k⟩ }

/-- A well-formed request is taken at a port: ignored in reset (R171), dropped with DROPPED while the port is BUSY
(R164), otherwise handed to its owning block, whose verdict becomes the response (R165). -/
def State.request (s : State) (h : HostId) (tag : Byte) (act : State → Verdict) : State :=
  let p := s.port h
  match p.state with
  | .inReset => s
  | .busy _ => s.setPort h { p with sticky := { p.sticky with dropped := true } }
  | _ =>
    match act s with
    | .error (st, r) => s.respond h tag st r
    | .ok (t, .now r) => t.respond h tag .ok r
    | .ok (t, .held k) => t.hold h tag k

/-- A held response becomes ready at the port where it waits (R165). -/
def Port.released (p : Port) (k : HeldKind) (r : Reply) : Port :=
  match p.state with
  | .busy q => if q.kind = k then p.answered .ok q.tag r else p
  | _ => p

/-- The owning block makes its held responses ready (R36, R91, R169). -/
def State.readyHeld (s : State) (k : HeldKind) (r : Reply) : State :=
  eachHost (fun h s => s.setPort h ((s.port h).released k r)) s

/-- A payload that does not fit its layout is refused BAD_ARGUMENT before any other check (R24, R174). -/
def withArgs {α : Type} (p : Payload α) (act : α → State → Verdict) (s : State) : Verdict :=
  match p with
  | .fits a => act a s
  | .misfit => refuse .badArgument

/-- A request on a lane: a lane number above 7 is refused BAD_ARGUMENT (R24). -/
def onLane (n : Byte) (act : LaneId → Verdict) : Verdict :=
  match laneNo n with
  | some l => act l
  | none => refuse .badArgument

/-- A request accepted from a lane's owner alone is refused NOT_OWNER from any other host (R24). -/
def asOwner (s : State) (h : HostId) (l : LaneId) (v : Verdict) : Verdict :=
  if (s.lane l).owner = some h then v else refuse .notOwner

/-- A request accepted from the lease holder alone is refused NO_LEASE from any other host (R150). -/
def asHolder (s : State) (h : HostId) (v : Verdict) : Verdict :=
  if s.lease = some h then v else refuse .noLease

end Sys2Proof.Machine
end

