-- ==== Sys2Proof/Machine/LaneOps.lean ====
section
/-! DEFINITION. What the lane controller does to one lane whoever asks for it: counting an overrun, starting a pass,
taking a trigger arrival, abandoning a pass, stopping and leaving STOPPING (R23, R35, R36, R44 to R47). -/

namespace Sys2Proof.Machine

/-- The overrun count rises by one, saturating; a change from 0 to 1 queues TRIGGER_OVERRUN to the owner (R47). -/
def State.countOverrun (s : State) (l : LaneId) : State :=
  let n := (s.lane l).overrun
  let s := s.setLane l { s.lane l with overrun := satSucc n }
  if n = 0 then s.queueOwner l (.triggerOverrun l) else s

/-- A pass start (R45). -/
def State.passStart (s : State) (l : LaneId) : State :=
  (s.setLane l { s.lane l with position := 0, errorCount := 0 }).takeBank l

/-- A trigger arrival taken at one lane, with its effect (R44, R50). -/
def State.arrive (s : State) (l : LaneId) : State × RunEffect :=
  let x := s.lane l
  match x.run with
  | .idle | .halted | .stopping => (s, .ignored)
  | .armed => (s.passStart l, .started)
  | .atBreak => (s.setLane l { x with run := .ready }, .continued)
  | .bankWait | .ready | .running | .suspended | .retryWait =>
    if x.pending then (s.countOverrun l, .overrun) else (s.setLane l { x with pending := true }, .pending)

/-- A trigger delivered to every lane whose source matches, in increasing lane number (R43, log 13). -/
def State.deliver (s : State) (listens : TriggerSource → Bool) : State :=
  eachLane (fun l s => if listens (s.lane l).config.source then (s.arrive l).1 else s) s

/-- The step a lane holds through a retry wait settles its station's toggle when the pass is abandoned (R23, R98). -/
def State.settleHeld (s : State) (l : LaneId) : State :=
  let x := s.lane l
  match x.held, x.program[x.position]? with
  | some k, some st => s.settleToggle st k.fullySent
  | _, _ => s

/-- A pass is abandoned (R23, R125): the write bank and the waiting mark go, a held step settles its toggle and its
retry interval is cancelled, and pending and disarm-at-end are cleared. The cause sets run state, position and events. -/
def State.abandonPass (s : State) (l : LaneId) : State :=
  let s := s.settleHeld l
  s.setLane l { s.lane l with
    write := none
    waiting := false
    held := none
    retryLeft := 0
    pending := false
    disarmAtEnd := false }

/-- A pass not on the line is stopped at once: abandoned, with PASS_ABANDONED at the position it held to its owner, and
the lane IDLE at position 0 (R35). -/
def State.stopAtOnce (s : State) (l : LaneId) : State :=
  let p := (s.lane l).position
  let s := (s.abandonPass l).queueOwner l (.passAbandoned l p)
  s.setLane l { s.lane l with run := .idle, position := 0 }

/-- The grant of a lane is released: the executor holds no step of it (R36, R59). -/
def State.releaseLane (s : State) (l : LaneId) : State :=
  match s.exec with
  | some e => if e.holder = .lane l then { s with exec := none } else s
  | none => s

/-- A lane leaves STOPPING (R36): its pass is abandoned as for any stop, the grant is released and the held response to
LANE_STOP becomes ready. -/
def State.leaveStopping (s : State) (l : LaneId) : State :=
  ((s.stopAtOnce l).releaseLane l).readyHeld (.laneStop l) (.stopped .running)

/-- The step of a lane is in an attempt. -/
def State.laneInFlight (s : State) (l : LaneId) : Bool :=
  match s.exec with
  | some e => e.holder == .lane l && e.inFlight
  | none => false

/-- The step of a lane ends at its stop with no attempt in flight: the toggle flips if an earlier frame of the execution
was fully sent (R36, R98, log 16). -/
def State.settleStopped (s : State) (l : LaneId) : State :=
  match s.exec with
  | some e => if e.holder = .lane l then s.settleToggle e.step e.fullySent else s
  | none => s

/-- A lane is stopped, by LANE_STOP or by orphaning (R35, R36, R41). -/
def State.stopLane (s : State) (l : LaneId) : State :=
  let x := s.lane l
  match x.run with
  | .idle | .stopping => s
  | .armed => s.setLane l { x with run := .idle }
  | .halted => s.setLane l { x with run := .idle, position := 0 }
  | .running =>
    if s.laneInFlight l then s.setLane l { x with run := .stopping } else (s.settleStopped l).leaveStopping l
  | .bankWait | .ready | .suspended | .retryWait | .atBreak => s.stopAtOnce l

/-- A lane's owner is gone: the lane becomes ORPHAN, the host's usage falls by its program length, and the lane is
stopped (R41). -/
def State.orphan (s : State) (h : HostId) (l : LaneId) : State :=
  let s := s.loseUsage h (s.lane l).program.length
  (s.setLane l { s.lane l with condition := .orphan }).stopLane l

end Sys2Proof.Machine
end

