-- ==== Sys2Proof/Machine/Lanes.lean ====
section
/-! DEFINITION. The lane requests (R24 to R42, R50): the verdict of the lane controller, and one meaning for each row. -/

namespace Sys2Proof.Machine

/-- LANE_CLAIM takes a lane (R26). -/
def State.claimLane (s : State) (h : HostId) (l : LaneId) : Verdict :=
  accept (s.setLane l { Lane.fresh with condition := .owned h }) (.claimed l)

/-- The lowest FREE lane (R26). -/
def State.freeLane (s : State) : Option LaneId := allLanes.find? fun l => (s.lane l).condition == .free

/-- LANE_CLAIM (R26). -/
def judgeLaneClaim (h : HostId) (c : LaneChoice) (s : State) : Verdict :=
  match c with
  | .lane n => onLane n fun l => if (s.lane l).condition = .free then s.claimLane h l else refuse .laneState
  | .any =>
    match s.freeLane with
    | some l => s.claimLane h l
    | none => refuse .noLane

/-- LANE_RELEASE (R27). -/
def judgeLaneRelease (h : HostId) (n : Byte) (s : State) : Verdict :=
  onLane n fun l => asOwner s h l <|
    match (s.lane l).run with
    | .idle | .halted =>
      let k := (s.lane l).program.length
      accept ((s.freeSteps h k).setLane l .fresh) (.released k)
    | _ => refuse .laneState

/-- A host gives a lane with its usage to another (R29). -/
def State.moveLane (s : State) (h k : HostId) (l : LaneId) : State :=
  let m := (s.lane l).program.length
  ((s.loseUsage h m).gainUsage k m).setLane l { s.lane l with condition := .owned k }

/-- LANE_HANDOVER (R29). -/
def judgeLaneHandover (h : HostId) (a : HandoverArgs) (s : State) : Verdict :=
  onLane a.lane fun l =>
    match hostNo a.target with
    | none => refuse .badArgument
    | some k => asOwner s h l <|
      if (s.lane l).run = .stopping then refuse .laneState
      else if k = h then accept s (.usage (s.usageOf k))
      else if s.inReset k then refuse .targetAbsent
      else if s.quotaOf k < s.usageOf k + (s.lane l).program.length then refuse .quota
      else accept (s.moveLane h k l) (.usage (s.usageOf k + (s.lane l).program.length))

/-- LANE_ADOPT (R42). -/
def judgeLaneAdopt (h : HostId) (n : Byte) (s : State) : Verdict :=
  onLane n fun l =>
    let x := s.lane l
    let m := x.program.length
    if x.condition ≠ .orphan ∨ x.run ≠ .idle then refuse .laneState
    else if s.quotaOf h < s.usageOf h + m then refuse .quota
    else accept ((s.gainUsage h m).setLane l { x with condition := .owned h }) (.adopted m (s.usageOf h + m))

/-- LANE_CONFIG (R31). -/
def judgeLaneConfig (h : HostId) (a : ConfigArgs) (s : State) : Verdict :=
  onLane a.lane fun l =>
    let x := s.lane l
    match newConfig x.config a.entries with
    | none => refuse .badArgument
    | some c => asOwner s h l <|
      match x.run with
      | .idle | .halted => accept (s.setLane l { x with config := c }) (.config c)
      | _ => refuse .laneState

/-- LANE_ARM (R33). -/
def judgeLaneArm (h : HostId) (n : Byte) (s : State) : Verdict :=
  onLane n fun l => asOwner s h l <|
    let x := s.lane l
    match x.run with
    | .idle | .halted =>
      if x.program = [] then refuse .empty
      else
        accept (s.setLane l { x with run := .armed, position := 0, pending := false, disarmAtEnd := false })
          (.armed x.program.length)
    | _ => refuse .laneState

/-- LANE_DISARM (R34). -/
def judgeLaneDisarm (h : HostId) (n : Byte) (s : State) : Verdict :=
  onLane n fun l => asOwner s h l <|
    let x := s.lane l
    match x.run with
    | .armed => accept (s.setLane l { x with run := .idle }) .nothing
    | .idle | .halted => accept s .nothing
    | .stopping => refuse .laneState
    | .bankWait | .ready | .running | .suspended | .retryWait | .atBreak =>
      accept (s.setLane l { x with disarmAtEnd := true }) .nothing

/-- LANE_RUN: one trigger arrival, whatever the lane's trigger source (R50). -/
def judgeLaneRun (h : HostId) (n : Byte) (s : State) : Verdict :=
  onLane n fun l => asOwner s h l <|
    if (s.lane l).run = .stopping then refuse .laneState
    else
      let r := s.arrive l
      accept r.1 (.ran r.2 (r.1.lane l).run)

/-- LANE_STOP: at once, or held until a RUNNING lane has left STOPPING (R35, R36). -/
def judgeLaneStop (h : HostId) (n : Byte) (s : State) : Verdict :=
  onLane n fun l => asOwner s h l <|
    let run := (s.lane l).run
    if run = .stopping then refuse .laneState
    else
      let t := s.stopLane l
      if (t.lane l).run = .stopping then .ok (t, .held (.laneStop l)) else accept t (.stopped run)

/-- The fields of a lane as they stand (R39). -/
def Lane.info (x : Lane) : LaneInfo :=
  ⟨x.condition, x.run, x.config, x.program.length, x.position, x.pending, x.overrun, x.disarmAtEnd, x.errorCount,
    x.generation, x.front, x.write, x.subscribers⟩

/-- LANE_QUERY (R39). -/
def judgeLaneQuery (n : Byte) (s : State) : Verdict := onLane n fun l => accept s (.laneInfo (s.lane l).info)

/-- LANE_QUERY with the clear option (R40). -/
def judgeLaneQueryClear (h : HostId) (n : Byte) (s : State) : Verdict :=
  onLane n fun l => asOwner s h l <|
    accept (s.setLane l { s.lane l with overrun := 0 }) (.laneInfo (s.lane l).info)

/-! ### The rows -/

def takeLaneClaim (h : HostId) (tag : Byte) (p : Payload LaneChoice) (s : State) : State :=
  s.request h tag (withArgs p (judgeLaneClaim h))

def takeLaneRelease (h : HostId) (tag : Byte) (p : Payload Byte) (s : State) : State :=
  s.request h tag (withArgs p (judgeLaneRelease h))

def takeLaneHandover (h : HostId) (tag : Byte) (p : Payload HandoverArgs) (s : State) : State :=
  s.request h tag (withArgs p (judgeLaneHandover h))

def takeLaneAdopt (h : HostId) (tag : Byte) (p : Payload Byte) (s : State) : State :=
  s.request h tag (withArgs p (judgeLaneAdopt h))

def takeLaneConfig (h : HostId) (tag : Byte) (p : Payload ConfigArgs) (s : State) : State :=
  s.request h tag (withArgs p (judgeLaneConfig h))

def takeLaneArm (h : HostId) (tag : Byte) (p : Payload Byte) (s : State) : State :=
  s.request h tag (withArgs p (judgeLaneArm h))

def takeLaneDisarm (h : HostId) (tag : Byte) (p : Payload Byte) (s : State) : State :=
  s.request h tag (withArgs p (judgeLaneDisarm h))

def takeLaneRun (h : HostId) (tag : Byte) (p : Payload Byte) (s : State) : State :=
  s.request h tag (withArgs p (judgeLaneRun h))

def takeLaneStop (h : HostId) (tag : Byte) (p : Payload Byte) (s : State) : State :=
  s.request h tag (withArgs p (judgeLaneStop h))

def takeLaneQuery (h : HostId) (tag : Byte) (p : Payload Byte) (s : State) : State :=
  s.request h tag (withArgs p judgeLaneQuery)

def takeLaneQueryClear (h : HostId) (tag : Byte) (p : Payload Byte) (s : State) : State :=
  s.request h tag (withArgs p (judgeLaneQueryClear h))

/-- LANE_CLAIM (R26). -/
def execLaneClaim (h : HostId) (tag : Byte) (p : Payload LaneChoice) (s : State) : Answered :=
  .next (takeLaneClaim h tag p s)

/-- LANE_RELEASE (R27). -/
def execLaneRelease (h : HostId) (tag : Byte) (p : Payload Byte) (s : State) : Answered :=
  .next (takeLaneRelease h tag p s)

/-- LANE_HANDOVER (R29). -/
def execLaneHandover (h : HostId) (tag : Byte) (p : Payload HandoverArgs) (s : State) : Answered :=
  .next (takeLaneHandover h tag p s)

/-- LANE_ADOPT (R42). -/
def execLaneAdopt (h : HostId) (tag : Byte) (p : Payload Byte) (s : State) : Answered :=
  .next (takeLaneAdopt h tag p s)

/-- LANE_CONFIG (R31). -/
def execLaneConfig (h : HostId) (tag : Byte) (p : Payload ConfigArgs) (s : State) : Answered :=
  .next (takeLaneConfig h tag p s)

/-- LANE_ARM (R33). -/
def execLaneArm (h : HostId) (tag : Byte) (p : Payload Byte) (s : State) : Answered := .next (takeLaneArm h tag p s)

/-- LANE_DISARM (R34). -/
def execLaneDisarm (h : HostId) (tag : Byte) (p : Payload Byte) (s : State) : Answered :=
  .next (takeLaneDisarm h tag p s)

/-- LANE_RUN (R50). -/
def execLaneRun (h : HostId) (tag : Byte) (p : Payload Byte) (s : State) : Answered := .next (takeLaneRun h tag p s)

/-- LANE_STOP (R35, R36). -/
def execLaneStop (h : HostId) (tag : Byte) (p : Payload Byte) (s : State) : Answered := .next (takeLaneStop h tag p s)

/-- LANE_QUERY (R39). -/
def execLaneQuery (h : HostId) (tag : Byte) (p : Payload Byte) (s : State) : Answered :=
  .next (takeLaneQuery h tag p s)

/-- LANE_QUERY with the clear option (R40). -/
def execLaneQueryClear (h : HostId) (tag : Byte) (p : Payload Byte) (s : State) : Answered :=
  .next (takeLaneQueryClear h tag p s)

end Sys2Proof.Machine
end

