-- ==== Sys2Proof/Machine/Programs.lean ====
section
/-! DEFINITION. The program requests (R8 to R19): the verdict of the lane controller and the step pool together, and one
meaning for each row. -/

namespace Sys2Proof.Machine

/-- The program may be edited: no pass is in progress (R8). -/
def RunState.editable : RunState → Bool
  | .idle | .armed | .halted => true
  | _ => false

/-- The checks that every edit passes before its own arguments: owner, then run state (R8). -/
def asEditor (s : State) (h : HostId) (l : LaneId) (v : Verdict) : Verdict :=
  asOwner s h l (if (s.lane l).run.editable then v else refuse .laneState)

/-- The program of a lane after an edit; its other fields stay (R15). -/
def State.setProgram (s : State) (l : LaneId) (program : List Step) : State :=
  s.setLane l { s.lane l with program := program }

/-- The response to an edit that succeeds: the program's length, the owner's usage and the free count it left (R16). -/
def edited (s : State) (h : HostId) (l : LaneId) : Verdict :=
  accept s (.edited (s.lane l).program.length (s.usageOf h) s.freeCount)

/-- The three pool limits, in order, for `k` new steps (R6); then the steps are taken from the free set and placed. -/
def State.grow (s : State) (h : HostId) (l : LaneId) (k : Nat) (program : List Step) : Verdict :=
  if Config.programMax < (s.lane l).program.length + k then refuse .programFull
  else if s.quotaOf h < s.usageOf h + k then refuse .quota
  else if s.freeCount < k then refuse .noStep
  else edited ((s.placeSteps h k).setProgram l program) h l

/-- PROG_APPEND (R9). A request of no steps or more than four does not fit its layout (log 9). -/
def judgeProgAppend (h : HostId) (a : AppendArgs) (s : State) : Verdict :=
  if a.steps.length < 1 ∨ 4 < a.steps.length then refuse .badArgument
  else
    onLane a.lane fun l => asEditor s h l <|
      match validSteps a.steps with
      | none => refuse .badArgument
      | some sts => s.grow h l sts.length ((s.lane l).program ++ sts)

/-- PROG_INSERT (R10). -/
def judgeProgInsert (h : HostId) (a : PlaceArgs) (s : State) : Verdict :=
  onLane a.lane fun l => asEditor s h l <|
    let program := (s.lane l).program
    let p := a.position.toNat
    match validStep a.step with
    | none => refuse .badArgument
    | some st =>
      if program.length < p then refuse .badArgument
      else s.grow h l 1 (program.take p ++ st :: program.drop p)

/-- PROG_REPLACE (R11). -/
def judgeProgReplace (h : HostId) (a : PlaceArgs) (s : State) : Verdict :=
  onLane a.lane fun l => asEditor s h l <|
    let program := (s.lane l).program
    let p := a.position.toNat
    match validStep a.step with
    | none => refuse .badArgument
    | some st =>
      if program.length ≤ p then refuse .badArgument
      else edited (s.setProgram l (program.set p st)) h l

/-- PROG_REMOVE (R12, R14). -/
def judgeProgRemove (h : HostId) (a : RemoveArgs) (s : State) : Verdict :=
  onLane a.lane fun l => asEditor s h l <|
    let program := (s.lane l).program
    let p := a.position.toNat
    if program.length ≤ p then refuse .badArgument
    else if (s.lane l).run = .armed ∧ program.length = 1 then refuse .empty
    else edited ((s.freeSteps h 1).setProgram l (program.eraseIdx p)) h l

/-- PROG_CLEAR (R13, R14). -/
def judgeProgClear (h : HostId) (n : Byte) (s : State) : Verdict :=
  onLane n fun l => asEditor s h l <|
    let program := (s.lane l).program
    if (s.lane l).run = .armed ∧ program ≠ [] then refuse .empty
    else edited ((s.freeSteps h program.length).setProgram l []) h l

/-- The step with its data list replaced; none where the step is no WRITE or BROADCAST (R17). -/
def Step.patched (data : List Byte) : Step → Option Step
  | .write seg st idx _ into => some (.write seg st idx data into)
  | .broadcast seg idx _ into => some (.broadcast seg idx data into)
  | _ => none

/-- PROG_PATCH, in every run state (R17). -/
def judgeProgPatch (h : HostId) (a : PatchArgs) (s : State) : Verdict :=
  onLane a.lane fun l => asOwner s h l <|
    let program := (s.lane l).program
    let p := a.position.toNat
    match program[p]?.bind (Step.patched a.data) with
    | none => refuse .badArgument
    | some st =>
      if dataOk a.data then accept (s.setProgram l (program.set p st)) (.patched p a.data.length)
      else refuse .badArgument

/-- PROG_READ, from any host (R19). -/
def judgeProgRead (a : ReadArgs) (s : State) : Verdict :=
  onLane a.lane fun l =>
    let first := a.first.toNat
    let count := a.count.toNat
    if count < 1 ∨ 4 < count ∨ 63 < first then refuse .badArgument
    else if (s.lane l).condition = .free then refuse .laneState
    else
      let program := (s.lane l).program
      accept s (.steps program.length first ((program.drop first).take count))

/-! ### The rows -/

def takeProgAppend (h : HostId) (tag : Byte) (p : Payload AppendArgs) (s : State) : State :=
  s.request h tag (withArgs p (judgeProgAppend h))

def takeProgInsert (h : HostId) (tag : Byte) (p : Payload PlaceArgs) (s : State) : State :=
  s.request h tag (withArgs p (judgeProgInsert h))

def takeProgReplace (h : HostId) (tag : Byte) (p : Payload PlaceArgs) (s : State) : State :=
  s.request h tag (withArgs p (judgeProgReplace h))

def takeProgRemove (h : HostId) (tag : Byte) (p : Payload RemoveArgs) (s : State) : State :=
  s.request h tag (withArgs p (judgeProgRemove h))

def takeProgClear (h : HostId) (tag : Byte) (p : Payload Byte) (s : State) : State :=
  s.request h tag (withArgs p (judgeProgClear h))

def takeProgPatch (h : HostId) (tag : Byte) (p : Payload PatchArgs) (s : State) : State :=
  s.request h tag (withArgs p (judgeProgPatch h))

def takeProgRead (h : HostId) (tag : Byte) (p : Payload ReadArgs) (s : State) : State :=
  s.request h tag (withArgs p judgeProgRead)

/-- PROG_APPEND (R9). -/
def execProgAppend (h : HostId) (tag : Byte) (p : Payload AppendArgs) (s : State) : Answered :=
  .next (takeProgAppend h tag p s)

/-- PROG_INSERT (R10). -/
def execProgInsert (h : HostId) (tag : Byte) (p : Payload PlaceArgs) (s : State) : Answered :=
  .next (takeProgInsert h tag p s)

/-- PROG_REPLACE (R11). -/
def execProgReplace (h : HostId) (tag : Byte) (p : Payload PlaceArgs) (s : State) : Answered :=
  .next (takeProgReplace h tag p s)

/-- PROG_REMOVE (R12). -/
def execProgRemove (h : HostId) (tag : Byte) (p : Payload RemoveArgs) (s : State) : Answered :=
  .next (takeProgRemove h tag p s)

/-- PROG_CLEAR (R13). -/
def execProgClear (h : HostId) (tag : Byte) (p : Payload Byte) (s : State) : Answered :=
  .next (takeProgClear h tag p s)

/-- PROG_PATCH (R17). -/
def execProgPatch (h : HostId) (tag : Byte) (p : Payload PatchArgs) (s : State) : Answered :=
  .next (takeProgPatch h tag p s)

/-- PROG_READ (R19). -/
def execProgRead (h : HostId) (tag : Byte) (p : Payload ReadArgs) (s : State) : Answered :=
  .next (takeProgRead h tag p s)

end Sys2Proof.Machine
end

