-- ==== Sys2Proof/Machine/Results.lean ====
section
/-! DEFINITION. Requests on results, events and the caller's direct queue: RESULT_READ, RESULT_WATCH, RESULT_UNWATCH
(R127 to R135), EVENT_FETCH, EVENT_MASK (R142, R146) and DIRECT_SUBMIT (R75). -/

namespace Sys2Proof.Machine

/-- RESULT_READ (R127): the checks in order; an OK answer names the front bank, which the port pins (R128, R129). -/
def judgeResultRead (a : ResultArgs) (s : State) : Verdict :=
  onLane a.lane fun l =>
    let first := a.first.toNat
    let count := a.count.toNat
    let x := s.lane l
    if 63 < first ∨ count < 1 ∨ 64 < count ∨ 64 < first + count then refuse .badArgument
    else if x.condition = .free then refuse .laneState
    else
      match x.front with
      | none => refuse .noData
      | some b =>
        if a.newerThan = some x.generation then .error (.notNewer, .notNewer x.generation)
        else accept s (.results l b first count)

/-- The caller joins or leaves a lane's subscriber set (R133, R134). -/
def State.subscribe (s : State) (h : HostId) (l : LaneId) (member : Bool) : Verdict :=
  if (s.lane l).condition = .free then refuse .laneState
  else
    let t := put (s.lane l).subscribers h member
    accept (s.setLane l { s.lane l with subscribers := t }) (.subscribers t)

/-- RESULT_WATCH (R133). -/
def judgeResultWatch (h : HostId) (n : Byte) (s : State) : Verdict := onLane n fun l => s.subscribe h l true

/-- RESULT_UNWATCH (R134). -/
def judgeResultUnwatch (h : HostId) (n : Byte) (s : State) : Verdict := onLane n fun l => s.subscribe h l false

/-- EVENT_FETCH (R142): the counts are fixed now; the records stay at the head of the queue until they are read out. -/
def judgeEventFetch (h : HostId) (n : Byte) (s : State) : Verdict :=
  let m := s.mailbox h
  let k := min n.toNat m.queue.length
  if n.toNat < 1 ∨ 4 < n.toNat then refuse .badArgument
  else accept s (.events k m.lost (m.queue.length - k))

/-- EVENT_MASK (R146). The formats give 00h for off and 01h for on, and no rule says what another enable byte does: the
model refuses it as an argument that is out of range. DESIGN CHOICE, unsafe (log 31). -/
def judgeEventMask (h : HostId) (a : MaskArgs) (s : State) : Verdict :=
  if maskOk a.mask = false ∨ 1 < a.enable.toNat then refuse .badArgument
  else
    let enable := a.enable == 0x01#8
    accept (s.setMailbox h { s.mailbox h with mask := a.mask, enable := enable }) (.mask a.mask enable)

/-- DIRECT_SUBMIT (R75). -/
def judgeDirectSubmit (h : HostId) (a : DirectArgs) (s : State) : Verdict :=
  match directStep a.step with
  | none => refuse .badArgument
  | some st =>
    if a.limit.toNat < 1 ∨ 8 < a.limit.toNat ∨ a.interval.toNat < 1 then refuse .badArgument
    else
      let q := s.directQueue h
      if Config.directMax ≤ q.length then refuse .directFull
      else
        accept
          (s.setDirectQueue h (q ++ [⟨st, a.limit.toNat, a.interval.toNat, a.hostTag, 0, false, none⟩]))
          (.queued (q.length + 1))

/-! ### The rows -/

def takeResultRead (h : HostId) (tag : Byte) (p : Payload ResultArgs) (s : State) : State :=
  s.request h tag (withArgs p judgeResultRead)

def takeResultWatch (h : HostId) (tag : Byte) (p : Payload Byte) (s : State) : State :=
  s.request h tag (withArgs p (judgeResultWatch h))

def takeResultUnwatch (h : HostId) (tag : Byte) (p : Payload Byte) (s : State) : State :=
  s.request h tag (withArgs p (judgeResultUnwatch h))

def takeEventFetch (h : HostId) (tag : Byte) (p : Payload Byte) (s : State) : State :=
  s.request h tag (withArgs p (judgeEventFetch h))

def takeEventMask (h : HostId) (tag : Byte) (p : Payload MaskArgs) (s : State) : State :=
  s.request h tag (withArgs p (judgeEventMask h))

def takeDirectSubmit (h : HostId) (tag : Byte) (p : Payload DirectArgs) (s : State) : State :=
  s.request h tag (withArgs p (judgeDirectSubmit h))

/-- RESULT_READ (R127 to R129). -/
def execResultRead (h : HostId) (tag : Byte) (p : Payload ResultArgs) (s : State) : Answered :=
  .next (takeResultRead h tag p s)

/-- RESULT_WATCH (R133). -/
def execResultWatch (h : HostId) (tag : Byte) (p : Payload Byte) (s : State) : Answered :=
  .next (takeResultWatch h tag p s)

/-- RESULT_UNWATCH (R134). -/
def execResultUnwatch (h : HostId) (tag : Byte) (p : Payload Byte) (s : State) : Answered :=
  .next (takeResultUnwatch h tag p s)

/-- EVENT_FETCH (R142). -/
def execEventFetch (h : HostId) (tag : Byte) (p : Payload Byte) (s : State) : Answered :=
  .next (takeEventFetch h tag p s)

/-- EVENT_MASK (R146). -/
def execEventMask (h : HostId) (tag : Byte) (p : Payload MaskArgs) (s : State) : Answered :=
  .next (takeEventMask h tag p s)

/-- DIRECT_SUBMIT (R75). -/
def execDirectSubmit (h : HostId) (tag : Byte) (p : Payload DirectArgs) (s : State) : Answered :=
  .next (takeDirectSubmit h tag p s)

end Sys2Proof.Machine
end

