-- ==== Sys2Proof/Machine/Formats.lean ====
section
/-! DEFINITION. Byte layouts of what the part sends: responses and event records on the host ports (R173), request
frames on the field line (R83), and the judging of a station's reply (R84, R174, R175). -/

namespace Sys2Proof.Machine

/-! ### Codes -/

def Status.code : Status → Byte
  | .ok => 0x00#8
  | .badFrame => 0x01#8
  | .unknownRequest => 0x02#8
  | .badArgument => 0x03#8
  | .notOwner => 0x04#8
  | .laneState => 0x05#8
  | .noLane => 0x06#8
  | .empty => 0x07#8
  | .noStep => 0x08#8
  | .quota => 0x09#8
  | .programFull => 0x0A#8
  | .noData => 0x0B#8
  | .notNewer => 0x0C#8
  | .directFull => 0x0D#8
  | .noLease => 0x0E#8
  | .leaseHeld => 0x0F#8
  | .linkActive => 0x10#8
  | .targetAbsent => 0x11#8

def RunState.code : RunState → Byte
  | .idle => 0x00#8
  | .armed => 0x01#8
  | .bankWait => 0x02#8
  | .ready => 0x03#8
  | .running => 0x04#8
  | .suspended => 0x05#8
  | .retryWait => 0x06#8
  | .atBreak => 0x07#8
  | .stopping => 0x08#8
  | .halted => 0x09#8

def LinkState.code : LinkState → Byte
  | .off => 0x00#8
  | .idle => 0x01#8
  | .switching => 0x02#8
  | .sending => 0x03#8
  | .awaitReply _ => 0x04#8
  | .receiving => 0x05#8
  | .gap => 0x06#8
  | .lineReset _ => 0x07#8
  | .faulted => 0x08#8

def StepOutcome.code : StepOutcome → Byte
  | .done => 0x01#8
  | .refused => 0x02#8
  | .deferred => 0x03#8
  | .noReply => 0x04#8
  | .checkFail => 0x05#8
  | .frameFault => 0x06#8
  | .stationSilent => 0x07#8
  | .sourceEmpty => 0x08#8

def RunEffect.code : RunEffect → Byte
  | .started => 0x00#8
  | .continued => 0x01#8
  | .pending => 0x02#8
  | .overrun => 0x03#8
  | .ignored => 0x04#8

def LineRate.code : LineRate → Byte
  | .k125 => 0x00#8
  | .k250 => 0x01#8
  | .k500 => 0x02#8
  | .k1000 => 0x03#8

def Condition.code : Condition → Byte
  | .free => 0x00#8
  | .owned _ => 0x01#8
  | .orphan => 0x02#8

/-- A flag that is set is 01h (R173). -/
def flagByte (b : Bool) : Byte := if b then 0x01#8 else 0x00#8

/-- A one-byte number that may be absent, sent as FFh then (R173). -/
def optByte {n : Nat} : Option (Fin n) → Byte
  | some i => byteOf i.val
  | none => 0xFF#8

/-- A set of hosts: bit k stands for Hk (R173). -/
def hostSetByte (t : HostSet) : Byte := BitVec.ofBoolListLE [look t 0, look t 1, look t 2, look t 3, false, false, false, false]

/-- A count in two bytes. -/
def twoBytes (n : Nat) : List Byte := bytes16 (BitVec.ofNat 16 n)

/-! ### Values -/

/-- A step encoding, an absent into as FFh. -/
def encodeStep : Step → List Byte
  | .read seg st idx count into => [0x01#8, byteOf seg, byteOf st, idx, byteOf count, optByte into]
  | .write seg st idx data into => [0x02#8, byteOf seg, byteOf st, idx, optByte into, byteOf data.length] ++ data
  | .broadcast seg idx data into => [0x03#8, byteOf seg, idx, optByte into, byteOf data.length] ++ data
  | .copy seg st idx lane record into =>
    [0x04#8, byteOf seg, byteOf st, idx, byteOf lane, byteOf record, optByte into]
  | .brk tag => [0x05#8, tag]

def EdgeKind.code : EdgeKind → Nat
  | .rising => 1
  | .falling => 2
  | .both => 3

def TriggerSource.bytes : TriggerSource → List Byte
  | .soft => [0x00#8, 0x00#8]
  | .timer t => [0x01#8, byteOf (16 * t)]
  | .edge x k => [0x02#8, byteOf (16 * x + k.code)]
  | .chain y => [0x03#8, byteOf (16 * y)]

def Mode.code : Mode → Byte
  | .single => 0x00#8
  | .continuous => 0x01#8

def ResumePolicy.code : ResumePolicy → Byte
  | .continue => 0x00#8
  | .restart => 0x01#8

def ErrorPolicy.code : ErrorPolicy → Byte
  | .skip => 0x00#8
  | .halt => 0x01#8

/-- The seven configuration fields in the order of R31. -/
def LaneConfig.bytes (c : LaneConfig) : List Byte :=
  [byteOf c.priority] ++ c.source.bytes
    ++ [c.mode.code, c.resume.code, c.onError.code, byteOf c.limit, byteOf c.interval]

/-- The settings record in the order of R154. -/
def Settings.bytes (r : Settings) : List Byte :=
  [r.lineRate.code, byteOf r.replyTimeout, byteOf r.segmentGuard, byteOf r.silentThreshold, byteOf r.probeInterval]
    ++ allHosts.flatMap fun h => twoBytes (look r.quota h)

/-- The fields of a lane in the order of R39. -/
def LaneInfo.bytes (i : LaneInfo) : List Byte :=
  [i.condition.code,
    (match i.condition with
    | .owned h => byteOf h
    | _ => 0xFF#8),
    i.run.code]
    ++ i.config.bytes
    ++ [byteOf i.length, byteOf i.position, flagByte i.pending, byteOf i.overrun, flagByte i.disarmAtEnd,
      byteOf i.errorCount]
    ++ bytes16 i.generation ++ [optByte i.front, optByte i.write, hostSetByte i.subscribers]

/-- The lease state: HELD with its holder, or FREE with FFh (R173). -/
def leaseBytes : Option HostId → List Byte
  | some h => [0x01#8, byteOf h]
  | none => [0x00#8, 0xFF#8]

/-- A result record: outcome, attempts used and data length, data. -/
def Record.bytes (r : Record) : List Byte :=
  [(r.outcome.map StepOutcome.code).getD 0x00#8, byteOf (16 * r.attempts + r.data.length)] ++ r.data

/-- The fields of an event's kind, in the order lane, generation, position, outcome, segment, station, break tag, host
tag, pass error count, attempts, data. -/
def EventBody.fields : EventBody → List Byte
  | .passDone l g n => [byteOf l] ++ bytes16 g ++ [byteOf n]
  | .passAbandoned l p => [byteOf l, byteOf p]
  | .stepError l p o n => [byteOf l, byteOf p, o.code, byteOf n]
  | .laneHalted l p o => [byteOf l, byteOf p, o.code]
  | .triggerOverrun l => [byteOf l]
  | .breakReached l p t => [byteOf l, byteOf p, t]
  | .laneOrphaned l => [byteOf l]
  | .directDone t o n d => [o.code, t, byteOf n] ++ ((d.map fun d => byteOf d.length :: d).getD [])
  | .stationSilent seg st => [byteOf seg, byteOf st]
  | .stationBack seg st => [byteOf seg, byteOf st]
  | .linkFault => []
  | .linkRecovered => []
  | .leaseExpired => []

/-- An event record: kind code, timestamp, and the fields of its kind. -/
def Event.bytes (e : Event) : List Byte := [byteOf e.body.kind] ++ bytes32 e.time ++ e.body.fields

/-- The records of a bank from `first` on, `count` of them. -/
def Bank.slice (b : Bank) (first count : Nat) : List Record := (b.records.toList.drop first).take count

/-- The payload of a response. The records of a RESULT_READ are drawn from the bank, those of an EVENT_FETCH from the
head of the port's queue (R165). -/
def Reply.bytes (s : State) (h : HostId) : Reply → List Byte
  | .nothing => []
  | .edited n used left => [byteOf n] ++ twoBytes used ++ twoBytes left
  | .patched p n => [byteOf p, byteOf n]
  | .steps n first sts => [byteOf n, byteOf first] ++ sts.flatMap encodeStep
  | .claimed l => [byteOf l]
  | .released n => [byteOf n]
  | .usage n => twoBytes n
  | .adopted n used => [byteOf n] ++ twoBytes used
  | .config c => c.bytes
  | .armed n => [byteOf n]
  | .ran effect run => [effect.code, run.code]
  | .stopped run => [run.code]
  | .laneInfo i => i.bytes
  | .results l b first count =>
    let bank := s.bank l b
    [byteOf l, byteOf b] ++ bytes16 bank.stamp.generation ++ bytes32 bank.stamp.timestamp
      ++ [byteOf bank.stamp.errors, byteOf bank.stamp.written, byteOf first, byteOf count]
      ++ (bank.slice first count).flatMap Record.bytes
  | .notNewer g => bytes16 g
  | .subscribers t => [hostSetByte t]
  | .events count lost remaining =>
    [byteOf count, byteOf lost, byteOf remaining] ++ ((s.mailbox h).queue.take count).flatMap Event.bytes
  | .mask m enable => bytes16 m ++ [flagByte enable]
  | .queued n => [byteOf n]
  | .link st => [st.code]
  | .leaseTaken => [0x00#8]
  | .leaseRenewed => [0x01#8]
  | .leaseHolder k => [byteOf k]
  | .timer t running period => [byteOf t, flagByte running] ++ twoBytes period
  | .settings r => r.bytes
  | .settingsUsage r used => r.bytes ++ allHosts.flatMap fun k => twoBytes (look used k)
  | .device i =>
    bytes16 Config.partCode ++ [Config.revision] ++ twoBytes i.freeCount ++ bytes32 i.timestamp ++ [i.link.code]
      ++ leaseBytes i.lease

/-- A response as it is clocked out after the status byte: status code, tag, two-byte length, payload, check byte
(R161). -/
def Response.bytes (s : State) (h : HostId) (r : Response) : List Byte :=
  let payload := r.reply.bytes s h
  let body := [r.status.code, r.tag] ++ twoBytes payload.length ++ payload
  body ++ [crc body]

/-! ### Field frames -/

/-- The operation of a header byte; a COPY sends a WRITE frame (R83). -/
def Step.operation : Step → Nat
  | .read .. => 0
  | .write .. => 1
  | .copy .. => 1
  | .broadcast .. => 2
  | .brk _ => 0

/-- The address of a header byte, 31 for a BROADCAST (R83). -/
def Step.address (st : Step) : Nat :=
  match st.station with
  | some (_, n) => n.val
  | none => 31

/-- The index byte of a frame. -/
def Step.index : Step → Byte
  | .read _ _ idx _ _ => idx
  | .write _ _ idx _ _ => idx
  | .broadcast _ idx _ _ => idx
  | .copy _ _ idx _ _ _ => idx
  | .brk _ => 0x00#8

/-- The number of data bytes a READ asks for; other steps ask for none. -/
def Step.asks : Step → Nat
  | .read _ _ _ count _ => count
  | _ => 0

/-- The request frame on the line after its start mark (R83, R175): header, index, length, data and check byte. The
toggle bit is 0 in READ and BROADCAST frames. -/
def Execution.fieldFrame (e : Execution) : List Byte :=
  let length := if e.step.asks = 0 then e.captured.data.length else e.step.asks
  let toggle := if e.step.toggles.isSome && e.captured.toggle then 1 else 0
  let body := [byteOf (8 * e.step.address + 2 * e.step.operation + toggle), e.step.index, byteOf length]
    ++ e.captured.data
  body ++ [crc body]

/-- The bit times a request frame lasts (R83). -/
def frameBitTimes (data : List Byte) : Nat := Config.frameBits + 8 * data.length

/-- A counted attempt result (R84). -/
inductive AttemptResult where
  | accept (data : List Byte)
  | defer
  | refuse
  | noReply
  | checkFail
  | frameFault
  deriving DecidableEq, Repr

/-- The bytes of a reply that the part expects after a status: `n` data bytes and a check byte. Bits that the station
does not send read as 1s (R84). -/
def replyByte (rest : List Byte) (i : Nat) : Byte := rest.getD i 0xFF#8

/-- The check of a reply with a known status (R84, R175). -/
def checkReply (status : Byte) (rest : List Byte) (n : Nat) (result : AttemptResult) : AttemptResult :=
  let data := (List.range n).map (replyByte rest)
  if crc (status :: data) = replyByte rest n then result else .checkFail

/-- The attempt result of a reply to a frame that asks for `n` data bytes (R84, R174). -/
def judgeReply (n : Nat) : ReplyWire → AttemptResult
  | .malformedMark => .frameFault
  | .bytes status rest =>
    if status = 0x5A#8 then checkReply status rest n (.accept ((List.range n).map (replyByte rest)))
    else if status = 0x3C#8 then checkReply status rest 0 .defer
    else if status = 0x0F#8 then checkReply status rest 0 .refuse
    else .frameFault

end Sys2Proof.Machine
end

