-- ==== Sys2Proof/Machine/Line.lean ====
section
/-! DEFINITION. The field line controller's shared operations: the station table (R96, R97), the withdrawal of a grant
(R65, R109), going OFF (R91), a line fault (R94) and the line reset sequence (R92). -/

namespace Sys2Proof.Machine

/-! ### Station table -/

/-- The result is a valid reply (R97). -/
def AttemptResult.valid : AttemptResult → Bool
  | .accept _ | .defer | .refuse => true
  | .noReply | .checkFail | .frameFault => false

/-- A station's entry after a counted result (R97). -/
def Station.after (x : Station) (threshold : Nat) (valid : Bool) : Station :=
  if valid then { x with silent := false, failures := 0 }
  else
    let n := min (x.failures + 1) Config.failureMax
    { x with silent := x.silent || threshold ≤ n, failures := n }

/-- A counted result is applied to the station table, with STATION_BACK or STATION_SILENT to every port not in reset
(R97). -/
def State.updateStation (s : State) (seg : SegmentId) (st : StationId) (valid : Bool) : State :=
  let x := s.station seg st
  let y := x.after s.settings.silentThreshold valid
  let s := s.setStation seg st y
  if x.silent && !y.silent then s.queueAll (.stationBack seg st)
  else if !x.silent && y.silent then s.queueAll (.stationSilent seg st)
  else s

/-- The station a step addresses is SILENT. -/
def State.silentFor (s : State) (st : Step) : Bool :=
  match st.station with
  | some (seg, n) => (s.station seg n).silent
  | none => false

/-! ### Withdrawal of the grant -/

/-- What a direct head keeps when its grant is withdrawn or its step enters retry wait (R107, R109). -/
def State.keepAtHead (s : State) (h : HostId) (e : Execution) (retryLeft : Option Nat) : State :=
  match s.directQueue h with
  | r :: rest =>
    s.setDirectQueue h ({ r with attempts := e.attempts, fullySent := e.fullySent, retryLeft := retryLeft } :: rest)
  | [] => s

/-- The grant is withdrawn, with an attempt in flight aborted or none begun (R65, R95, R109, R37). -/
def State.withdraw (s : State) : State :=
  match s.exec with
  | none => s
  | some e =>
    let s := { s with exec := none }
    match e.holder with
    | .lane l =>
      if (s.lane l).run = .stopping then (s.settleToggle e.step e.fullySent).leaveStopping l
      else s.setLane l { s.lane l with run := .suspended }
    | .direct h => s.keepAtHead h e none
    | .discarded => s.settleToggle e.step e.fullySent
    | .probe => s

/-! ### Link states -/

/-- The link goes OFF: a grant held is withdrawn and every waiting LINK_DISABLE is answered (R91, R65). -/
def State.goOff (s : State) : State :=
  let s := s.withdraw
  { s with link := .off, phaseLeft := 0, watchLeft := 0, disableWaiting := false }.readyHeld .linkOff (.link .off)

/-- The link enters FAULTED: LINK_FAULT is queued unless a fault is announced already, the recovery watch starts, and a
waiting disable takes the link OFF at once (R94, R91). -/
def State.enterFaulted (s : State) : State :=
  let s := s.withdraw
  let s := if s.faultAnnounced then s else { s.queueAll .linkFault with faultAnnounced := true }
  let s := { s with link := .faulted, phaseLeft := 0, watchLeft := Config.watchTime }
  if s.disableWaiting then s.goOff else s

/-- The line reset sequence visits a segment: SEG1..SEG0 are driven to it and its guard runs (R92). -/
def State.resetSegment (s : State) (seg : SegmentId) : State :=
  { s with link := .lineReset .segmentGuard, segment := seg, phaseLeft := s.guardTime, watchLeft := 0 }

/-- A line reset begins: a grant held is withdrawn, and the sequence runs if FDA reads high; otherwise the link enters
FAULTED (R90, R93). -/
def State.beginLineReset (s : State) : State :=
  match s.fda with
  | .low => s.enterFaulted
  | .high => s.withdraw.resetSegment 0

/-- The line reset is complete: every entry of the station table is PRESENT, 0, 0, LINK_RECOVERED ends an announced
fault, and the link is IDLE, or OFF when a disable waits (R92, R94). -/
def State.completeLineReset (s : State) : State :=
  let s := { s with stations := freshStations, link := .idle, phaseLeft := 0 }
  let s := if s.faultAnnounced then { s.queueAll .linkRecovered with faultAnnounced := false } else s
  if s.disableWaiting then s.goOff else s

/-- The link enters GAP for 4 bit times (R87). -/
def State.enterGap (s : State) : State := { s with link := .gap, phaseLeft := s.bits Config.gapBits }

end Sys2Proof.Machine
end

