-- ==== Sys2Proof/Machine/Shared.lean ====
section
/-! DEFINITION. Requests on what all hosts share: the settings lease (R150 to R153), the settings record (R155 to R157),
the interval timers (R54), the link (R89 to R93) and the identity of the part (R159). -/

namespace Sys2Proof.Machine

/-! ### Lease -/

/-- LEASE_TAKE (R151). -/
def judgeLeaseTake (h : HostId) (_ : Unit) (s : State) : Verdict :=
  match s.lease with
  | none => accept { s with lease := some h, leaseLeft := Config.leaseTime } .leaseTaken
  | some k =>
    if k = h then accept { s with leaseLeft := Config.leaseTime } .leaseRenewed
    else .error (.leaseHeld, .leaseHolder k)

/-- LEASE_RENEW (R152). -/
def judgeLeaseRenew (h : HostId) (_ : Unit) (s : State) : Verdict :=
  asHolder s h (accept { s with leaseLeft := Config.leaseTime } .nothing)

/-- LEASE_DROP (R152). -/
def judgeLeaseDrop (h : HostId) (_ : Unit) (s : State) : Verdict :=
  asHolder s h (accept { s with lease := none, leaseLeft := 0 } .nothing)

/-! ### Settings -/

/-- An accepted SETTINGS_WRITE: the record takes its new values together, and a write that names the probe interval
restarts a probe timer that is counting (R155, R156, R80). -/
def State.writeSettings (s : State) (entries : List RawSetting) (r : Settings) : State :=
  let s := { s with settings := r }
  if entries.any RawSetting.namesProbe ∧ s.probe.left.isSome = true then
    { s with probe := { s.probe with left := some s.probeTime } }
  else s

/-- SETTINGS_WRITE (R155). -/
def judgeSettingsWrite (h : HostId) (entries : List RawSetting) (s : State) : Verdict :=
  match newSettings s.settings entries with
  | none => refuse .badArgument
  | some r =>
    asHolder s h <|
      if sameLinkFields r s.settings = false ∧ s.link ≠ .off then refuse .linkActive
      else if entries.any (RawSetting.belowUsage s.usage) then refuse .quota
      else accept (s.writeSettings entries r) (.settings r)

/-- SETTINGS_READ (R157). -/
def judgeSettingsRead (_ : Unit) (s : State) : Verdict := accept s (.settingsUsage s.settings s.usage)

/-- DEVICE_QUERY (R159). -/
def judgeDeviceQuery (_ : Unit) (s : State) : Verdict :=
  accept s (.device ⟨s.freeCount, s.timestamp, s.link, s.lease⟩)

/-! ### Interval timers -/

/-- The command of a TIMER_SET: none, START or STOP. -/
inductive TimerCommand where
  | none
  | start
  | stop
  deriving DecidableEq, Repr

/-- The command code of a TIMER_SET (R174). -/
def timerCommand (b : Byte) : Option TimerCommand :=
  match b.toNat with
  | 0 => some .none
  | 1 => some .start
  | 2 => some .stop
  | _ => Option.none

/-- A timer after an accepted TIMER_SET (R54). -/
def IntervalTimer.set (x : IntervalTimer) (period : Option Nat) (c : TimerCommand) : IntervalTimer :=
  let p := period.getD x.period
  let started : IntervalTimer := ⟨p, true, p * Config.timerUnit⟩
  match x.running, c with
  | _, .stop => ⟨p, false, 0⟩
  | false, .none => ⟨p, false, 0⟩
  | false, .start => started
  | true, _ => if period.isSome then started else x

/-- TIMER_SET (R54). -/
def judgeTimerSet (h : HostId) (a : TimerArgs) (s : State) : Verdict :=
  match small 4 a.timer, timerCommand a.command with
  | some t, some c =>
    if a.period = some 0 then refuse .badArgument
    else
      asHolder s h <|
        let x := (s.timer t).set (a.period.map BitVec.toNat) c
        accept (s.setTimer t x) (.timer t x.running x.period)
  | _, _ => refuse .badArgument

/-! ### Link -/

/-- LINK_ENABLE (R89, R90). -/
def judgeLinkEnable (h : HostId) (fda : Level) (_ : Unit) (s : State) : Verdict :=
  asHolder s h <|
    if s.link ≠ .off then refuse .linkActive
    else
      let t := { s with fda := fda }.beginLineReset
      accept t (.link t.link)

/-- LINK_DISABLE (R91). -/
def judgeLinkDisable (h : HostId) (_ : Unit) (s : State) : Verdict :=
  asHolder s h <|
    match s.link with
    | .off => accept s (.link .off)
    | .idle | .faulted => accept s.goOff (.link .off)
    | .switching | .sending | .awaitReply _ | .receiving | .gap | .lineReset _ =>
      .ok ({ s with disableWaiting := true }, .held .linkOff)

/-- LINK_RESET (R93). -/
def judgeLinkReset (h : HostId) (fda : Level) (_ : Unit) (s : State) : Verdict :=
  asHolder s h <|
    if s.link = .off then accept s (.link .off)
    else
      let t := { s with fda := fda }.beginLineReset
      accept t (.link t.link)

/-! ### The rows -/

def takeLeaseTake (h : HostId) (tag : Byte) (p : Payload Unit) (s : State) : State :=
  s.request h tag (withArgs p (judgeLeaseTake h))

def takeLeaseRenew (h : HostId) (tag : Byte) (p : Payload Unit) (s : State) : State :=
  s.request h tag (withArgs p (judgeLeaseRenew h))

def takeLeaseDrop (h : HostId) (tag : Byte) (p : Payload Unit) (s : State) : State :=
  s.request h tag (withArgs p (judgeLeaseDrop h))

def takeSettingsWrite (h : HostId) (tag : Byte) (p : Payload (List RawSetting)) (s : State) : State :=
  s.request h tag (withArgs p (judgeSettingsWrite h))

def takeSettingsRead (h : HostId) (tag : Byte) (p : Payload Unit) (s : State) : State :=
  s.request h tag (withArgs p judgeSettingsRead)

def takeDeviceQuery (h : HostId) (tag : Byte) (p : Payload Unit) (s : State) : State :=
  s.request h tag (withArgs p judgeDeviceQuery)

def takeTimerSet (h : HostId) (tag : Byte) (p : Payload TimerArgs) (s : State) : State :=
  s.request h tag (withArgs p (judgeTimerSet h))

def takeLinkEnable (h : HostId) (tag : Byte) (p : Payload Unit) (fda : Level) (s : State) : State :=
  s.request h tag (withArgs p (judgeLinkEnable h fda))

def takeLinkDisable (h : HostId) (tag : Byte) (p : Payload Unit) (s : State) : State :=
  s.request h tag (withArgs p (judgeLinkDisable h))

def takeLinkReset (h : HostId) (tag : Byte) (p : Payload Unit) (fda : Level) (s : State) : State :=
  s.request h tag (withArgs p (judgeLinkReset h fda))

/-- LEASE_TAKE (R151). -/
def execLeaseTake (h : HostId) (tag : Byte) (p : Payload Unit) (s : State) : Answered :=
  .next (takeLeaseTake h tag p s)

/-- LEASE_RENEW (R152). -/
def execLeaseRenew (h : HostId) (tag : Byte) (p : Payload Unit) (s : State) : Answered :=
  .next (takeLeaseRenew h tag p s)

/-- LEASE_DROP (R152). -/
def execLeaseDrop (h : HostId) (tag : Byte) (p : Payload Unit) (s : State) : Answered :=
  .next (takeLeaseDrop h tag p s)

/-- SETTINGS_WRITE (R155). -/
def execSettingsWrite (h : HostId) (tag : Byte) (p : Payload (List RawSetting)) (s : State) : Answered :=
  .next (takeSettingsWrite h tag p s)

/-- SETTINGS_READ (R157). -/
def execSettingsRead (h : HostId) (tag : Byte) (p : Payload Unit) (s : State) : Answered :=
  .next (takeSettingsRead h tag p s)

/-- DEVICE_QUERY (R159). -/
def execDeviceQuery (h : HostId) (tag : Byte) (p : Payload Unit) (s : State) : Answered :=
  .next (takeDeviceQuery h tag p s)

/-- TIMER_SET (R54). -/
def execTimerSet (h : HostId) (tag : Byte) (p : Payload TimerArgs) (s : State) : Answered :=
  .next (takeTimerSet h tag p s)

/-- LINK_ENABLE (R90). -/
def execLinkEnable (h : HostId) (tag : Byte) (p : Payload Unit) (fda : Level) (s : State) : Answered :=
  .next (takeLinkEnable h tag p fda s)

/-- LINK_DISABLE (R91). -/
def execLinkDisable (h : HostId) (tag : Byte) (p : Payload Unit) (s : State) : Answered :=
  .next (takeLinkDisable h tag p s)

/-- LINK_RESET (R93). -/
def execLinkReset (h : HostId) (tag : Byte) (p : Payload Unit) (fda : Level) (s : State) : Answered :=
  .next (takeLinkReset h tag p fda s)

/-- LEASE_EXPIRY: the lease timer has run out; the lease is FREE and LEASE_EXPIRED goes to the host that held it. A timer
that a renewal taken first has started again does not expire (R153, log 4). -/
def execLeaseExpiry (s : State) : Answered :=
  match s.lease with
  | some h => if s.leaseLeft = 0 then .next ({ s with lease := none }.queueEvent h .leaseExpired) else .next s
  | none => .next s

end Sys2Proof.Machine
end

