-- ==== Sys2Proof/Machine/Frames.lean ====
section
/-! DEFINITION. Frames at the host ports (R161 to R169), port resets (R170, R171) and power-on (R172). -/

namespace Sys2Proof.Machine

/-! ### Frames -/

/-- The request frame of the whole bytes clocked in: code, tag and payload, or none where the frame is malformed (R164).
Bytes after the check byte are not looked at (R161). -/
def parseFrame : List Byte → Option (Byte × Byte × List Byte)
  | code :: tag :: len :: rest =>
    let n := len.toNat
    let payload := rest.take n
    if n ≤ maxPayload ∧ n < rest.length ∧ rest[n]? = some (crc (code :: tag :: len :: payload)) then
      some (code, tag, payload)
    else none
  | _ => none

/-- A request is routed to its owning block (R165). Commands that are no requests are never routed. -/
def State.route (s : State) (i : Instr) : State :=
  match i with
  | .laneClaim h tag p => takeLaneClaim h tag p s
  | .laneRelease h tag p => takeLaneRelease h tag p s
  | .laneHandover h tag p => takeLaneHandover h tag p s
  | .laneAdopt h tag p => takeLaneAdopt h tag p s
  | .laneConfig h tag p => takeLaneConfig h tag p s
  | .laneArm h tag p => takeLaneArm h tag p s
  | .laneDisarm h tag p => takeLaneDisarm h tag p s
  | .laneRun h tag p => takeLaneRun h tag p s
  | .laneStop h tag p => takeLaneStop h tag p s
  | .laneQuery h tag p => takeLaneQuery h tag p s
  | .laneQueryClear h tag p => takeLaneQueryClear h tag p s
  | .progAppend h tag p => takeProgAppend h tag p s
  | .progInsert h tag p => takeProgInsert h tag p s
  | .progReplace h tag p => takeProgReplace h tag p s
  | .progRemove h tag p => takeProgRemove h tag p s
  | .progClear h tag p => takeProgClear h tag p s
  | .progPatch h tag p => takeProgPatch h tag p s
  | .progRead h tag p => takeProgRead h tag p s
  | .resultRead h tag p => takeResultRead h tag p s
  | .resultWatch h tag p => takeResultWatch h tag p s
  | .resultUnwatch h tag p => takeResultUnwatch h tag p s
  | .eventFetch h tag p => takeEventFetch h tag p s
  | .eventMask h tag p => takeEventMask h tag p s
  | .directSubmit h tag p => takeDirectSubmit h tag p s
  | .linkEnable h tag p fda => takeLinkEnable h tag p fda s
  | .linkDisable h tag p => takeLinkDisable h tag p s
  | .linkReset h tag p fda => takeLinkReset h tag p fda s
  | .leaseTake h tag p => takeLeaseTake h tag p s
  | .leaseRenew h tag p => takeLeaseRenew h tag p s
  | .leaseDrop h tag p => takeLeaseDrop h tag p s
  | .timerSet h tag p => takeTimerSet h tag p s
  | .settingsWrite h tag p => takeSettingsWrite h tag p s
  | .settingsRead h tag p => takeSettingsRead h tag p s
  | .deviceQuery h tag p => takeDeviceQuery h tag p s
  | _ => s

/-- A well-formed frame that is no POLL is taken: an unknown code, a code 00h with a payload, or a request (R164). -/
def State.takeRequest (s : State) (h : HostId) (code tag : Byte) (payload : List Byte) (fda : Level) : State :=
  if code = 0x00#8 then s.respond h tag .badArgument .nothing
  else
    match decodeRequest h tag code payload fda with
    | none => s.respond h tag .unknownRequest .nothing
    | some i => s.route i

/-- The request bytes of a frame are judged (R164): POLL, BUSY, malformed, then the request. -/
def State.judgeFrame (s : State) (h : HostId) (bytes : List Byte) (fda : Level) : State :=
  let p := s.port h
  let frame := parseFrame bytes
  match p.state with
  | .inReset => s
  | .busy _ =>
    match frame with
    | some (0x00#8, _, []) => s
    | _ => s.setPort h { p with sticky := { p.sticky with dropped := true } }
  | _ =>
    match frame with
    | some (0x00#8, _, []) => s
    | some (code, tag, payload) => s.takeRequest h code tag payload fda
    | none => s.respond h (bytes.getD 1 0x00#8) .badFrame .nothing

/-- The status byte has been clocked out whole: the sticky flags it reported as set are cleared (R162). -/
def Port.statusOut (p : Port) : Port :=
  match p.frame with
  | .inFrame f =>
    if f.statusDone then p
    else { p with frame := .inFrame { f with statusDone := true }, sticky := p.sticky.without f.reported }
  | _ => p

/-- The records of a fetch response clocked out complete leave the queue, and the lost count falls by the one it reported
(R143). -/
def State.readOut (s : State) (h : HostId) : Reply → State
  | .events count lost _ =>
    let m := s.mailbox h
    s.setMailbox h { m with queue := m.queue.drop count, lost := m.lost - lost }
  | _ => s

/-- The response a frame began with leaves the port at the frame's end, delivered or truncated (R163, R167). -/
def State.settleResponse (s : State) (h : HostId) (f : Frame) (clocked : Nat) : State :=
  let p := s.port h
  match f.carries, p.state with
  | true, .ready r =>
    let delivered := f.out.length ≤ clocked
    let s := (s.setPort h { p with
      state := .idle
      sticky := { p.sticky with truncated := p.sticky.truncated || !decide delivered } }).releasePin h
    if delivered then s.readOut h r.reply else s
  | _, _ => s

/-- The response at a port expires: it is discarded, its pin released and EXPIRED set (R168). -/
def State.expire (s : State) (h : HostId) : State :=
  let p := s.port h
  match p.state with
  | .ready _ => (s.setPort h { p with state := .idle, sticky := { p.sticky with expired := true } }).releasePin h
  | _ => s

/-- The end of a frame that clocked at least one whole byte (R163): the status byte is out, the response clocked out is
settled, and then the request bytes are judged. -/
def State.endFrame (s : State) (h : HostId) (f : Frame) (bytes : List Byte) (fda : Level) : State :=
  let s := s.setPort h { (s.port h).statusOut with frame := .none }
  (s.settleResponse h f bytes.length).judgeFrame h bytes fda

/-- The end of a frame before its first whole byte: no effect on the port, but that a response whose 20 ms have passed
expires now (R163, R168). -/
def State.endEmptyFrame (s : State) (h : HostId) (f : Frame) : State :=
  let s := s.setPort h { s.port h with frame := .none }
  if f.carries = true ∧ (s.port h).expiry = 0 then s.expire h else s

/-- FRAME_START: chip select falls (R161, R162). In reset it starts no frame (R171). -/
def execFrameStart (h : HostId) (s : State) : Answered :=
  let p := s.port h
  match p.frame, p.state with
  | .none, .inReset => .next (s.setPort h { p with frame := .ignored })
  | .none, .ready r =>
    .next (s.setPort h { p with frame := .inFrame ⟨p.sticky, false, true, s.statusByte h :: r.bytes s h⟩ })
  | .none, _ => .next (s.setPort h { p with frame := .inFrame ⟨p.sticky, false, false, [s.statusByte h]⟩ })
  | _, _ => .next s

/-- STATUS_BYTE_CLOCKED_OUT (R162). -/
def execStatusByteClockedOut (h : HostId) (s : State) : Answered := .next (s.setPort h (s.port h).statusOut)

/-- FRAME_END: chip select rises after the whole bytes given were clocked (R163, R164). -/
def execFrameEnd (h : HostId) (bytes : List Byte) (fda : Level) (s : State) : Answered :=
  match (s.port h).frame with
  | .none => .next s
  | .ignored => .next (s.setPort h { s.port h with frame := .none })
  | .inFrame f => if bytes = [] then .next (s.endEmptyFrame h f) else .next (s.endFrame h f bytes fda)

/-- RESPONSE_EXPIRY: the expiry timer has run out, 20 ms having passed since the response became ready with no frame begun
with it (R168, log 4). -/
def execResponseExpiry (h : HostId) (s : State) : Answered :=
  if (s.port h).expiry = 0 ∧ (s.port h).clocksOut = false then .next (s.expire h) else .next s

/-- POLL: the request bytes of a frame whose code is 00h are judged (R164). -/
def execPoll (h : HostId) (tag : Byte) (payload : List Byte) (check : Byte) (s : State) : Answered :=
  .next (s.judgeFrame h (0x00#8 :: tag :: byteOf payload.length :: (payload ++ [check])) s.fda)

/-! ### Port reset -/

/-- A frame in progress is ignored from now on (R171). -/
def FrameState.ignoredFrom : FrameState → FrameState
  | .none => .none
  | _ => .ignored

/-- The reset host's direct queue is emptied (R78): an attempt in flight runs on as a discarded one; otherwise the head's
step ends, settling its toggle (R98, log 15). -/
def State.emptyDirect (s : State) (h : HostId) : State :=
  let q := s.directQueue h
  let s := s.setDirectQueue h []
  match q with
  | [] => s
  | r :: _ =>
    match s.exec with
    | some e =>
      if e.holder = .direct h then
        if e.inFlight then { s with exec := some { e with holder := .discarded } }
        else { s with exec := none }.settleToggle e.step e.fullySent
      else s.settleToggle r.step r.fullySent
    | none => s.settleToggle r.step r.fullySent

/-- A lane of the reset host becomes ORPHAN, and every port not in reset is told (R41, R140). -/
def State.orphanIfOwned (s : State) (h : HostId) (l : LaneId) : State :=
  if (s.lane l).owner = some h then (s.orphan h l).queueAll (.laneOrphaned l) else s

/-- A host leaves the subscriber set of a lane (R134, R147). -/
def State.unsubscribe (s : State) (h : HostId) (l : LaneId) : State :=
  s.setLane l { s.lane l with subscribers := put (s.lane l).subscribers h false }

/-- PORT_RESET: PRST falls (R170): port, notification unit, link arbiter, settings unit and lane controller in turn. -/
def State.resetPort (s : State) (h : HostId) : State :=
  let s := s.releasePin h
  let p := s.port h
  let s := s.setPort h ⟨.inReset, .low, p.frame.ignoredFrom, 0, .clear, none⟩
  let s := eachLane (fun l s => s.unsubscribe h l) (s.setMailbox h .fresh)
  let s := s.emptyDirect h
  let s := if s.lease = some h then { s with lease := none, leaseLeft := 0 } else s
  eachLane (fun l s => s.orphanIfOwned h l) s

/-- PORT_RESET (R170). -/
def execPortReset (h : HostId) (s : State) : Answered := .next (s.resetPort h)

/-- PORT_RESET_RELEASE: PRST rises and the port becomes IDLE, unless PORn is low (R171, R172). -/
def execPortResetRelease (h : HostId) (s : State) : Answered :=
  let p := s.port h
  match p.state with
  | .inReset =>
    .next (s.setPort h { p with
      state := if s.porLow then .inReset else .idle
      prst := .high
      sticky := .clear
      pin := none })
  | _ => .next s

/-! ### Power -/

/-- POWER_ON: PORn held low puts the whole part into its power-on state (R172). The levels of the input pins and the
queue of commands are not the part's to set (log 24). -/
def execPowerOn (s : State) : Answered :=
  .next { State.reset with
    ports := s.ports.map fun p => { Port.fresh with prst := p.prst, frame := p.frame.ignoredFrom }
    fda := s.fda
    pending := s.pending }

/-- POWER_ON_RELEASE: PORn rises and each port whose PRST is high becomes IDLE (R172). -/
def execPowerOnRelease (s : State) : Answered :=
  if s.porLow then
    .next { s with
      porLow := false
      ports := s.ports.map fun p => if p.prst = .high then { p with state := .idle } else p }
  else .next s

end Sys2Proof.Machine
end

