-- ==== Sys2Proof/Machine/Arbiter.lean ====
section
/-! DEFINITION. The link arbiter: candidates, levels and round-robin (R60, R63), and the target of a probe (R81). -/

namespace Sys2Proof.Machine

/-- The numbers after the pointer in increasing order, wrapping, the pointer's own last; all from the lowest when it is
absent (R63). -/
def inTurn {n : Nat} (all : List (Fin n)) : Option (Fin n) → List (Fin n)
  | some p => all.filter (fun i => p < i) ++ all.filter (fun i => i ≤ p)
  | none => all

/-- The head of a host's direct queue is a candidate: not in retry wait and not in execution (R60). -/
def State.directWaits (s : State) (h : HostId) : Bool :=
  match s.directQueue h with
  | r :: _ =>
    r.retryLeft.isNone && (match s.exec with
      | some e => e.holder != .direct h
      | none => true)
  | [] => false

/-- A lane is a candidate: READY or SUSPENDED (R60). -/
def State.laneWaits (s : State) (l : LaneId) : Bool :=
  match (s.lane l).run with
  | .ready | .suspended => true
  | _ => false

/-- The level-4 candidate whose turn it is (R63). -/
def State.directPick (s : State) : Option HostId := (inTurn allHosts s.directPtr).find? s.directWaits

/-- The candidate of a lane level whose turn it is (R63). -/
def State.lanePick (s : State) (p : Fin 4) : Option LaneId :=
  (inTurn allLanes (look s.lanePtr p)).find? fun l => s.laneWaits l && (s.lane l).config.priority == p

/-- The stations in the order of R81. -/
def allStations : List (SegmentId × StationId) :=
  (List.finRange 4).flatMap fun seg => (List.finRange 31).map fun st => (seg, st)

/-- One station comes after another in the order of R81. -/
def stationAfter (a b : SegmentId × StationId) : Bool := a.1 < b.1 || (a.1 == b.1 && a.2 < b.2)

/-- The probe's target: the first SILENT station after the last-probed one, wrapping (R81). -/
def State.probeTarget (s : State) : Option (SegmentId × StationId) :=
  let order := match s.probe.last with
    | some a => allStations.filter (fun b => stationAfter a b) ++ allStations.filter (fun b => !stationAfter a b)
    | none => allStations
  order.find? fun b => (s.station b.1 b.2).silent

/-- The probe candidate's target, where the probe-due flag is set and a station is SILENT (R60, R80). -/
def State.probePick (s : State) : Option (SegmentId × StationId) := if s.probe.due then s.probeTarget else none

/-- A candidate for the line. -/
inductive Candidate where
  | direct (h : HostId)
  | lane (l : LaneId)
  | probe (seg : SegmentId) (st : StationId)
  deriving DecidableEq, Repr

/-- The first of the lane levels given that has a candidate, and its candidate. -/
def State.laneCandidate (s : State) : List (Fin 4) → Option LaneId
  | [] => none
  | p :: rest =>
    match s.lanePick p with
    | some l => some l
    | none => s.laneCandidate rest

/-- The candidate of the highest level, by round-robin within it (R62). -/
def State.bestCandidate (s : State) : Option Candidate :=
  match s.directPick with
  | some h => some (.direct h)
  | none =>
    match s.laneCandidate [3, 2, 1, 0] with
    | some l => some (.lane l)
    | none => s.probePick.map fun b => .probe b.1 b.2

/-- A candidate of a level strictly higher than a priority exists (R68). -/
def State.higherWaits (s : State) (p : Fin 4) : Bool :=
  s.directPick.isSome || (s.laneCandidate ([3, 2, 1, 0].filter fun q => p < q)).isSome

/-- A grant point: the link is IDLE, no grant is held and a candidate exists (R62). -/
def State.grantPoint (s : State) : Bool := s.link == .idle && s.exec.isNone && s.bestCandidate.isSome

/-- The current grant's holder (R58, log 19). -/
def State.grant (s : State) : Option Holder := s.exec.map (·.holder)

end Sys2Proof.Machine
end

