-- ==== Sys2Proof/Machine/Execution.lean ====
section
/-! DEFINITION. Passes and steps: pass completion (R72, R73, R124), step boundaries, BREAKs and preemption (R66 to R68),
giving the grant (R62, R64, R81), attempts and their checks (R100 to R104), attempt results (R105 to R107) and the step
end (R111 to R114, R76). -/

namespace Sys2Proof.Machine

/-! ### Pass completion -/

/-- The records of a bank whose outcome is not NOT_RUN (R120). -/
def Bank.written (b : Bank) : Nat := b.records.toList.countP fun r => r.outcome.isSome

/-- The lane's banks are swapped: the write bank is stamped and becomes the front bank, and the generation moves on by
one (R124). -/
def State.swapBanks (s : State) (l : LaneId) : State :=
  let x := s.lane l
  match x.write with
  | some b =>
    let bank := s.bank l b
    let g := x.generation + 1
    let s := s.setBank l b { bank with stamp := ⟨g, s.timestamp, x.errorCount, bank.written⟩ }
    s.setLane l { x with front := some b, write := none, generation := g }
  | none => s

/-- The lane's next state after a completion, from mode, disarm-at-end and pending (R73). -/
def State.afterPass (s : State) (l : LaneId) : State :=
  let x := s.lane l
  if x.config.mode = .continuous ∧ x.disarmAtEnd = false then
    if x.pending then (s.setLane l { x with pending := false }).passStart l
    else s.setLane l { x with run := .armed, position := 0 }
  else
    let s := s.setLane l { x with run := .idle, position := 0, disarmAtEnd := false, pending := false }
    if x.pending then s.countOverrun l else s

/-- A pass completes (R72): swap, PASS_DONE to the subscribers, the lane's next state, and a chain trigger due (R56,
log 14). -/
def State.completePass (s : State) (l : LaneId) : State :=
  let s := s.swapBanks l
  let x := s.lane l
  let s := (s.queueSubscribers l (.passDone l x.generation x.errorCount)).afterPass l
  { s with chainDue := s.chainDue ++ [l] }

/-! ### Boundaries -/

/-- What the pass-completion and BREAK checks leave: the lane has given up the grant, or it goes on with a step. -/
inductive Course where
  | ended (s : State)
  | goesOn (step : Step) (s : State)

/-- The pass-completion check and the BREAK check, over the steps from the lane's position on (R66, R67). -/
def State.passChecks (s : State) (l : LaneId) : List Step → Course
  | [] => .ended (s.completePass l)
  | .brk tag :: rest =>
    let x := s.lane l
    if x.pending then
      (s.setLane l { x with position := x.position + 1, pending := false }).passChecks l rest
    else
      .ended ((s.setLane l { x with position := x.position + 1, run := .atBreak }).queueOwner l
        (.breakReached l x.position tag))
  | st :: _ => .goesOn st s

/-- The steps from a lane's position on. -/
def State.stepsLeft (s : State) (l : LaneId) : List Step := (s.lane l).program.drop (s.lane l).position

/-- A lane's step is put into execution, with what it kept through a retry wait (R99, R107). -/
def State.execute (s : State) (l : LaneId) (st : Step) : State :=
  let x := s.lane l
  let k := x.held.getD ⟨0, false⟩
  { s.setLane l { x with held := none } with
    exec := some ⟨.lane l, st, x.config.limit, x.config.interval, k.attempts, k.fullySent, false, ⟨[], false⟩⟩ }

/-- A lane receives the grant: it is RUNNING, and the completion and BREAK checks come before its step (R64). -/
def State.grantLane (s : State) (l : LaneId) : State :=
  let x := s.lane l
  let s := { s.setLane l { x with run := .running } with lanePtr := put s.lanePtr x.config.priority (some l) }
  match s.passChecks l (s.stepsLeft l) with
  | .ended s => s
  | .goesOn st s => s.execute l st

/-- A direct head receives the grant (R64, R116). -/
def State.grantDirect (s : State) (h : HostId) : State :=
  match s.directQueue h with
  | r :: _ =>
    { s with
      directPtr := some h
      exec := some ⟨.direct h, r.step, r.limit, r.interval, r.attempts, r.fullySent, false, ⟨[], false⟩⟩ }
  | [] => s

/-- A probe receives the grant: the flag clears, the timer restarts, and a READ of one byte of the target is put into
execution (R64, R81, R117). -/
def State.grantProbe (s : State) (seg : SegmentId) (st : StationId) : State :=
  { s with
    probe := ⟨false, some s.probeTime, some (seg, st)⟩
    exec := some ⟨.probe, .read seg st 0 1 none, 1, 0, 0, false, false, ⟨[], false⟩⟩ }

/-- A candidate receives the grant (R62, R63). -/
def State.giveGrant (s : State) : Candidate → State
  | .direct h => s.grantDirect h
  | .lane l => s.grantLane l
  | .probe seg st => s.grantProbe seg st

/-- What a preemption leaves of a lane's pass by its resume policy (R68). -/
def State.suspendPass (s : State) (l : LaneId) : State :=
  let x := s.lane l
  match x.config.resume with
  | .continue => s.setLane l { x with run := .suspended }
  | .restart =>
    let s := s.setLane l { x with run := .suspended, position := 0, errorCount := 0 }
    match x.write with
    | some b => s.clearBank l b
    | none => s

/-- The grant passes directly to the highest candidate (R68). -/
def State.passGrant (s : State) : State :=
  match s.bestCandidate with
  | some c => s.giveGrant c
  | none => s

/-- A step boundary: pass completion, BREAK, preemption, in that order (R66). -/
def State.boundary (s : State) (l : LaneId) : State :=
  match s.passChecks l (s.stepsLeft l) with
  | .ended s => s
  | .goesOn st s =>
    if s.higherWaits (s.lane l).config.priority then (s.suspendPass l).passGrant else s.execute l st

/-! ### The step end -/

/-- The step's record is written into the lane's write bank, if the step has into (R112). -/
def State.writeRecord (s : State) (l : LaneId) (e : Execution) (o : StepOutcome) (data : List Byte) : State :=
  match e.step.into, (s.lane l).write with
  | some r, some b =>
    let bank := s.bank l b
    s.setBank l b { bank with records := put bank.records r ⟨some o, e.attempts, data⟩ }
  | _, _ => s

/-- The position moves on by one and the lane comes to its step boundary (R66, R113). -/
def State.advance (s : State) (l : LaneId) : State :=
  let x := s.lane l
  (s.setLane l { x with position := x.position + 1 }).boundary l

/-- A failed step under SKIP (R113). -/
def State.skipStep (s : State) (l : LaneId) (e : Execution) (o : StepOutcome) : State :=
  let x := s.lane l
  ((s.setLane l { x with errorCount := x.errorCount + 1 }).queueOwner l
    (.stepError l x.position o e.attempts)).advance l

/-- A failed step under HALT (R114). -/
def State.haltPass (s : State) (l : LaneId) (o : StepOutcome) : State :=
  let x := s.lane l
  let s := (s.setLane l { x with errorCount := x.errorCount + 1 }).abandonPass l
  (s.setLane l { s.lane l with run := .halted }).queueOwner l (.laneHalted l x.position o)

/-- A lane's step has ended: the record, then STOPPING, or the error policy (R36, R111 to R114). -/
def State.laneStepEnd (s : State) (l : LaneId) (e : Execution) (o : StepOutcome) (data : List Byte) : State :=
  let s := s.writeRecord l e o data
  let x := s.lane l
  if x.run = .stopping then s.leaveStopping l
  else if o = .done then s.advance l
  else
    match x.config.onError with
    | .skip => s.skipStep l e o
    | .halt => s.haltPass l o

/-- A direct request completes: it leaves its queue and DIRECT_DONE goes to its host, with the data of a READ that ended
DONE (R76). -/
def State.directDone (s : State) (h : HostId) (e : Execution) (o : StepOutcome) (data : List Byte) : State :=
  match s.directQueue h with
  | r :: rest =>
    let returned := if e.step.asks ≠ 0 ∧ o = .done then some data else none
    (s.setDirectQueue h rest).queueEvent h (.directDone r.hostTag o e.attempts returned)
  | [] => s

/-- The step in execution ends with an outcome and its kept data (R111): the executor holds no step, the write toggle is
settled, and the outcome goes to the holder. -/
def State.stepEnd (s : State) (e : Execution) (o : StepOutcome) (data : List Byte) : State :=
  let s := { s with exec := none }.settleToggle e.step e.fullySent
  match e.holder with
  | .lane l => s.laneStepEnd l e o data
  | .direct h => s.directDone h e o data
  | .discarded => s
  | .probe => s

/-! ### Attempts -/

/-- The bytes a COPY sends, where its source record qualifies (R101, R102, R132). -/
def State.copySource (s : State) (l : LaneId) (r : RecordId) : Option (List Byte) :=
  let x := s.lane l
  match x.condition, x.front with
  | .free, _ => none
  | _, none => none
  | _, some b =>
    let rec_ := look (s.bank l b).records r
    if rec_.outcome = some .done ∧ 1 ≤ rec_.data.length ∧ rec_.data.length ≤ 8 then some rec_.data else none

/-- The checks at the beginning of an attempt, with the outcome of the first that fails (R100, R101, R103). -/
def State.failsCheck (s : State) (e : Execution) : Option StepOutcome :=
  match e.holder, e.step with
  | .probe, _ => none
  | _, .copy _ _ _ l r _ =>
    if (s.copySource l r).isNone then some .sourceEmpty
    else if s.silentFor e.step then some .stationSilent
    else none
  | _, st => if s.silentFor st then some .stationSilent else none

/-- The data list of a WRITE or BROADCAST; other kinds have none. -/
def Step.data : Step → List Byte
  | .write _ _ _ data _ => data
  | .broadcast _ _ data _ => data
  | _ => []

/-- The data list of the step in execution as its step record now holds it; a direct request keeps its own (R18, R76). -/
def State.currentData (s : State) (e : Execution) : List Byte :=
  match e.holder with
  | .lane l =>
    match (s.lane l).program[(s.lane l).position]? with
    | some st => st.data
    | none => e.step.data
  | _ => e.step.data

/-- What a frame of the step carries, taken at frame start; none where a COPY's source no longer qualifies (R18, R102,
R104). -/
def State.capture (s : State) (e : Execution) : Option (List Byte) :=
  match e.step with
  | .copy _ _ _ l r _ => s.copySource l r
  | .read .. => some []
  | _ => some (s.currentData e)

/-- The write toggle a frame carries, taken at frame start (R98). -/
def State.frameToggle (s : State) (e : Execution) : Bool :=
  match e.step.toggles with
  | some (seg, n) => (s.station seg n).toggle
  | none => false

/-- Frame start (R87, R102): the capture, then the FDA check, then the start mark. None where the capture fails. -/
def State.frameStart (s : State) (e : Execution) : Option State :=
  match s.capture e with
  | none => none
  | some data =>
    let e := { e with inFlight := true, captured := ⟨data, s.frameToggle e⟩ }
    let s := { s with exec := some e }
    match s.fda with
    | .low => some s.enterFaulted
    | .high => some { s with link := .sending, phaseLeft := s.bits (frameBitTimes data) }

/-- An attempt to another segment: the new segment is selected and the segment guard runs (R88). -/
def State.switchSegment (s : State) (e : Execution) (seg : SegmentId) : State :=
  { s with
    exec := some { e with inFlight := true }
    link := .switching
    segment := seg
    phaseLeft := s.guardTime }

/-- More rounds than one act can take: every round ends a step without line time, which moves a lane of at most 64 steps
on by one or passes the grant to a strictly higher level. -/
def driveRounds : Nat := 512

/-- With the link IDLE, the holder of the grant begins its attempt; a step that ends without line time goes to its
boundary with the link still IDLE (R59, R87, R100, R113). With the link in another state the holder waits. -/
def State.drive : Nat → State → State
  | 0, s => s
  | n + 1, s =>
    match s.exec with
    | none => s
    | some e =>
      if s.link ≠ .idle then s
      else
        match s.failsCheck e with
        | some o => (s.stepEnd e o []).drive n
        | none =>
          match e.step.segment with
          | none => s
          | some seg =>
            if seg ≠ s.segment then s.switchSegment e seg
            else
              match s.frameStart e with
              | some s => s
              | none => (s.stepEnd e .sourceEmpty []).drive n

/-- The line is free again: OFF when a disable waits, otherwise IDLE with the holder's attempt begun (R59, R87, R91). -/
def State.lineFree (s : State) : State :=
  if s.disableWaiting then s.goOff else { s with link := .idle, phaseLeft := 0 }.drive driveRounds

/-- The outcome a counted failure gives at the attempt limit (R106); a valid ACCEPT or REFUSE ends the step by itself. -/
def AttemptResult.outcome : AttemptResult → StepOutcome
  | .accept _ => .done
  | .refuse => .refused
  | .defer => .deferred
  | .noReply => .noReply
  | .checkFail => .checkFail
  | .frameFault => .frameFault

/-- The result ends its step whatever attempts remain (R105). -/
def AttemptResult.final : AttemptResult → Bool
  | .accept _ | .refuse => true
  | _ => false

/-- The data a DONE step keeps: the bytes a READ received, the bytes a COPY sent (R105, R111). -/
def keptData (e : Execution) : AttemptResult → List Byte
  | .accept data =>
    match e.step with
    | .read .. => data
    | .copy .. => e.captured.data
    | _ => []
  | _ => []

/-- A step enters retry wait: the holder keeps its attempts used and its fully-sent mark, its retry timer runs, and the
grant is released (R70, R107). -/
def State.retryWait (s : State) (e : Execution) : State :=
  let s := { s with exec := none }
  match e.holder with
  | .lane l =>
    s.setLane l { s.lane l with
      run := .retryWait
      held := some ⟨e.attempts, e.fullySent⟩
      retryLeft := e.interval * Config.retryUnit }
  | .direct h => s.keepAtHead h e (some (e.interval * Config.retryUnit))
  | _ => s

/-- The holder makes no further attempt: a lane in STOPPING, a discarded request, a probe (R36, R78, R117). -/
def State.lastAttempt (s : State) (e : Execution) : Bool :=
  match e.holder with
  | .lane l => (s.lane l).run == .stopping
  | .direct _ => false
  | .discarded => true
  | .probe => true

/-- The step executor acts on a counted result, the station table being updated already (R105, R106). -/
def State.countResult (s : State) (e : Execution) (r : AttemptResult) (silenced : Bool) : State :=
  let e := { e with attempts := e.attempts + 1 }
  if r.final then s.stepEnd e r.outcome (keptData e r)
  else if silenced then s.stepEnd e .stationSilent []
  else if e.limit ≤ e.attempts ∨ s.lastAttempt e = true then s.stepEnd e r.outcome []
  else s.retryWait e

/-- A counted attempt result is handed over as the link enters GAP: the station table first, then the executor (R87,
R97, R104). -/
def State.attemptResult (s : State) (e : Execution) (r : AttemptResult) : State :=
  let s := s.enterGap
  match e.step.station with
  | some (seg, st) =>
    let before := (s.station seg st).silent
    let s := s.updateStation seg st r.valid
    s.countResult e r (!before && (s.station seg st).silent)
  | none => s

end Sys2Proof.Machine
end

