-- ==== Sys2Proof/Machine/LineEvents.lean ====
section
/-! DEFINITION. The events of the arbiter and of the field line, one meaning for each row. An event that cannot occur in
the state in which it is taken has no effect (log 2). -/

namespace Sys2Proof.Machine

/-- GRANT: at a grant point the highest candidate receives the grant and begins (R62 to R64, R100). -/
def execGrant (fda : Level) (s : State) : Answered :=
  match s.bestCandidate with
  | some c => if s.grantPoint then .next (({ s with fda := fda }.giveGrant c).drive driveRounds) else .next s
  | none => .next s

/-- SEGMENT_GUARD_END: the attempt goes on to its frame start, or its COPY no longer qualifies and the step ends
SOURCE_EMPTY with no frame and no gap (R88, R102, R91). -/
def execSegmentGuardEnd (fda : Level) (s : State) : Answered :=
  match s.link, s.exec with
  | .switching, some e =>
    let s := { s with fda := fda }
    match s.frameStart e with
    | some t => .next t
    | none => .next (s.stepEnd e .sourceEmpty []).lineFree
  | _, _ => .next s

/-- FRAME_FULLY_SENT: the fully-sent mark is set, and the link awaits a reply, or enters GAP after a BROADCAST (R83, R84,
R104, R108). -/
def execFrameFullySent (s : State) : Answered :=
  match s.link, s.exec with
  | .sending, some e =>
    let s := { s with exec := some { e with fullySent := true } }
    if e.step.isBroadcast then .next s.enterGap
    else .next { s with link := .awaitReply false, phaseLeft := s.replyTime }
  | _, _ => .next s

/-- REPLY_START_MARK: a bit of the station's start mark sampled low. The first one begins the mark, and the reply timeout
no longer applies; the second one takes the link to RECEIVING (R84, R87, log 17). -/
def execReplyStartMark (s : State) : Answered :=
  match s.link with
  | .awaitReply false => .next { s with link := .awaitReply true, phaseLeft := 0 }
  | .awaitReply true => .next { s with link := .receiving, phaseLeft := 0 }
  | _ => .next s

/-- REPLY_TIMEOUT: no bit sampled low within the reply timeout is NO_REPLY (R84). -/
def execReplyTimeout (s : State) : Answered :=
  match s.link, s.exec with
  | .awaitReply false, some e => .next (s.attemptResult e .noReply)
  | _, _ => .next s

/-- The link state in which a reply ends: a malformed start mark ends it in AWAIT_REPLY, any other reply in RECEIVING
(R84). -/
def LinkState.endsReply : LinkState → ReplyWire → Bool
  | .awaitReply _, .malformedMark => true
  | .receiving, .bytes .. => true
  | _, _ => false

/-- REPLY_END: the reply is judged and its result handed over as the link enters GAP (R84, R87, R97, R105). -/
def execReplyEnd (reply : ReplyWire) (s : State) : Answered :=
  match s.exec with
  | some e =>
    if s.link.endsReply reply then .next (s.attemptResult e (judgeReply e.step.asks reply)) else .next s
  | none => .next s

/-- The BROADCAST in its gap, if there is one, is reported as sent and its step ends DONE with one attempt used (R108). -/
def State.endBroadcast (s : State) : State :=
  match s.exec with
  | some e => if e.inFlight then s.stepEnd { e with attempts := 1 } .done [] else s
  | none => s

/-- GAP_END: a BROADCAST ends, and the line is free (R87, R91, R108). -/
def execGapEnd (fda : Level) (s : State) : Answered :=
  match s.link with
  | .gap => .next { s with fda := fda }.endBroadcast.lineFree
  | _ => .next s

/-- RETRY_EXPIRY: the lane or direct head in retry wait becomes a candidate again with what it kept (R71). -/
def execRetryExpiry (who : RetryHolder) (s : State) : Answered :=
  match who with
  | .lane l =>
    let x := s.lane l
    if x.run = .retryWait then .next (s.setLane l { x with run := .ready, retryLeft := 0 }) else .next s
  | .direct h =>
    match s.directQueue h with
    | r :: rest => .next (s.setDirectQueue h ({ r with retryLeft := none } :: rest))
    | [] => .next s

/-- PROBE_TIMER_EXPIRY: the probe timer has run out; the probe-due flag is set and the timer stops (R80, log 4). While PORn
is low nothing runs (R172). -/
def execProbeTimerExpiry (s : State) : Answered :=
  if s.porLow = false ∧ s.probe.left = some 0 then .next { s with probe := { s.probe with due := true, left := none } }
  else .next s

/-- LINE_FAULT: FDA reads low at the check before a start mark, at a bit the part has released, or at a reading of a line
reset; the attempt or the sequence is aborted and the link enters FAULTED (R94, R95, log 22). -/
def execLineFault (s : State) : Answered :=
  match s.link with
  | .switching | .sending | .lineReset .segmentGuard | .lineReset .hold => .next { s with fda := .low }.enterFaulted
  | _ => .next s

/-- RECOVERY_WATCH_RESTART: FDA reads low in FAULTED and the watch restarts (R94). -/
def execRecoveryWatchRestart (s : State) : Answered :=
  match s.link with
  | .faulted => .next { s with fda := .low, watchLeft := Config.watchTime }
  | _ => .next s

/-- RECOVERY_WATCH_EXPIRY: the watch has run out, FDA having read high for 10 ms in FAULTED, and a line reset begins (R94,
R92, log 4). -/
def execRecoveryWatchExpiry (s : State) : Answered :=
  match s.link with
  | .faulted => if s.watchLeft = 0 then .next ({ s with fda := .high }.resetSegment 0) else .next s
  | _ => .next s

/-- LINE_RESET_GUARD_END: FDA is read; high, it is driven low for 32 bit times; low, the sequence stops at a fault (R92,
R94). -/
def execLineResetGuardEnd (fda : Level) (s : State) : Answered :=
  match s.link with
  | .lineReset .segmentGuard =>
    let s := { s with fda := fda }
    match fda with
    | .low => .next s.enterFaulted
    | .high => .next { s with link := .lineReset .drive, phaseLeft := s.bits Config.driveBits }
  | _ => .next s

/-- LINE_RESET_DRIVE_END: FDA is released and FCK is held low for 4 bit times (R92). -/
def execLineResetDriveEnd (s : State) : Answered :=
  match s.link with
  | .lineReset .drive => .next { s with link := .lineReset .hold, phaseLeft := s.bits Config.gapBits }
  | _ => .next s

/-- The segment a line reset visits after another; none after segment 3 (R92). -/
def nextSegment (seg : SegmentId) : Option SegmentId := if h : seg.val + 1 < 4 then some ⟨seg.val + 1, h⟩ else none

/-- LINE_RESET_HOLD_END: FDA is read again; low is a fault; high moves on to the next segment or completes the sequence
(R92, R94). -/
def execLineResetHoldEnd (fda : Level) (s : State) : Answered :=
  match s.link with
  | .lineReset .hold =>
    let s := { s with fda := fda }
    match fda with
    | .low => .next s.enterFaulted
    | .high =>
      match nextSegment s.segment with
      | some seg => .next (s.resetSegment seg)
      | none => .next s.completeLineReset
  | _ => .next s

end Sys2Proof.Machine
end

