-- ==== Sys2Proof/Machine/Triggers.lean ====
section
/-! DEFINITION. The trigger unit's events: samples of the TRG lines (R51, R52), expiries of the interval timers (R53) and
chain triggers (R56). -/

namespace Sys2Proof.Machine

/-- The edges that reach a lane of an edge kind (R52): `rising` is the edge from LOW to HIGH. -/
def EdgeKind.hears (rising : Bool) : EdgeKind → Bool
  | .rising => rising
  | .falling => !rising
  | .both => true

/-- The source listens to an edge of a TRG line. -/
def TriggerSource.hearsEdge (x : Fin 4) (rising : Bool) : TriggerSource → Bool
  | .edge y k => y == x && k.hears rising
  | _ => false

/-- A sampler after a sample, and the edge recognised, rising or not (R51). -/
def Sampler.sample (m : Sampler) (v : Level) : Sampler × Option Bool :=
  match m.level with
  | none => (⟨if m.last = some v then some v else none, some v⟩, none)
  | some r =>
    if v ≠ r ∧ m.last = some v then (⟨some v, some v⟩, some (v == .high)) else (⟨some r, some v⟩, none)

/-- A sample of a TRG line, with the edge it recognises delivered (R51, R52). While PORn is low nothing runs (R172). -/
def execTrgSample (x : Fin 4) (v : Level) (s : State) : Answered :=
  if s.porLow then .next s
  else
    let r := (look s.samplers x).sample v
    let s := { s with samplers := put s.samplers x r.1 }
    match r.2 with
    | some rising => .next (s.deliver (TriggerSource.hearsEdge x rising))
    | none => .next s

/-- TIMER_EXPIRY: the count of a running timer has run out; it reloads and its trigger is delivered (R53). A timer that is
stopped, or whose count a period write taken first has started again, does not expire (R55, log 4). -/
def execTimerExpiry (t : Fin 4) (s : State) : Answered :=
  let x := s.timer t
  if x.running = true ∧ x.left = 0 then
    .next ((s.setTimer t { x with left := x.period * Config.timerUnit }).deliver fun c => c == TriggerSource.timer t)
  else .next s

/-- A chain trigger due after a completion is delivered, also where its lane has been released or orphaned since (R56, R72,
log 14). -/
def execChainTrigger (y : LaneId) (s : State) : Answered :=
  if y ∈ s.chainDue then
    .next ({ s with chainDue := s.chainDue.erase y }.deliver fun c => c == TriggerSource.chain y)
  else .next s

end Sys2Proof.Machine
end

