-- ==== Sys2Proof/Machine/Clock.lean ====
section
/-! DEFINITION. The time base (R158): what one microsecond does to the counts that run, and which events fall due. The
table has no row for it: it is what a step does on an empty queue (log 3). -/

namespace Sys2Proof.Machine

/-- A count runs down by one microsecond. -/
def ticked (n : Nat) : Nat := n - 1

/-- A running count reaches zero at this microsecond. -/
def falls (n : Nat) : Bool := n == 1

/-- The event that ends the link's present phase; none where the phase has no end of its own. -/
def State.phaseEnd (s : State) : List Instr :=
  match s.link with
  | .switching => [.segmentGuardEnd s.fda]
  | .sending => [.frameFullySent]
  | .awaitReply false => [.replyTimeout]
  | .gap => [.gapEnd s.fda]
  | .lineReset .segmentGuard => [.lineResetGuardEnd s.fda]
  | .lineReset .drive => [.lineResetDriveEnd]
  | .lineReset .hold => [.lineResetHoldEnd s.fda]
  | .off | .idle | .awaitReply true | .receiving | .faulted => []

/-- The head of a direct queue after a microsecond of its retry wait. -/
def tickHead : List DirectRequest → List DirectRequest
  | r :: rest => { r with retryLeft := r.retryLeft.map ticked } :: rest
  | [] => []

/-- The retry wait of the head of a direct queue ends at this microsecond. -/
def headFalls : List DirectRequest → Bool
  | r :: _ => r.retryLeft == some 1
  | [] => false

/-- The recovery watch after a microsecond: it runs in FAULTED while FDA reads high (R94). Each reading of FDA low there is a
RECOVERY_WATCH_RESTART, which starts it again; a microsecond with none taken is one in which FDA reads high (log 5). -/
def State.tickWatch (s : State) : Nat :=
  match s.link with
  | .faulted => ticked s.watchLeft
  | _ => s.watchLeft

/-- The events that fall due at this microsecond, in a fixed order (log 3). -/
def State.due (s : State) : List Instr :=
  (if falls s.phaseLeft then s.phaseEnd else [])
    ++ (if s.link = .faulted ∧ falls s.watchLeft = true then [.recoveryWatchExpiry] else [])
    ++ ([0, 1, 2, 3].filterMap fun t =>
      if (s.timer t).running ∧ falls (s.timer t).left = true then some (.timerExpiry t) else none)
    ++ (allLanes.filterMap fun l =>
      if (s.lane l).run = .retryWait ∧ falls (s.lane l).retryLeft = true then some (.retryExpiry (.lane l)) else none)
    ++ (allHosts.filterMap fun h => if headFalls (s.directQueue h) then some (.retryExpiry (.direct h)) else none)
    ++ (if s.probe.left = some 1 then [.probeTimerExpiry] else [])
    ++ (if s.lease.isSome ∧ falls s.leaseLeft = true then [.leaseExpiry] else [])
    ++ (allHosts.filterMap fun h =>
      let p := s.port h
      if p.isReady && falls p.expiry && !p.clocksOut then some (.responseExpiry h) else none)

/-- One microsecond passes: the timestamp counter advances (R158), every running count runs down, and the events that
fall due join the queue. -/
def State.tick (s : State) : State :=
  { s with
    timestamp := s.timestamp + 1
    phaseLeft := ticked s.phaseLeft
    watchLeft := s.tickWatch
    timers := s.timers.map fun x => { x with left := ticked x.left }
    lanes := s.lanes.map fun x => { x with retryLeft := ticked x.retryLeft }
    direct := s.direct.map tickHead
    probe := { s.probe with left := s.probe.left.map ticked }
    leaseLeft := ticked s.leaseLeft
    ports := s.ports.map fun p => { p with expiry := ticked p.expiry }
    pending := s.pending ++ s.due }

/-- What the part does with no command waiting (log 3): nothing while PORn is low; a chain trigger due; a grant at a
grant point; otherwise a microsecond passes. -/
def State.idleStep (s : State) : Answered :=
  if s.porLow then .next s
  else
    match s.chainDue with
    | y :: _ => execChainTrigger y s
    | [] => if s.grantPoint then execGrant s.fda s else .next s.tick

end Sys2Proof.Machine
end

