-- ==== Sys2Proof/Machine/Dispatch.lean ====
section
/-! DEFINITION. One arm for each command: the direct call of its meaning. -/

namespace Sys2Proof.Machine
open Host

def exec (i : Instr) (s : State) : Host.Outcome State Fault Refusal :=
  match i with
  | .powerOn => Sys2Proof.Machine.execPowerOn s
  | .powerOnRelease => Sys2Proof.Machine.execPowerOnRelease s
  | .portReset h => Sys2Proof.Machine.execPortReset h s
  | .portResetRelease h => Sys2Proof.Machine.execPortResetRelease h s
  | .frameStart h => Sys2Proof.Machine.execFrameStart h s
  | .statusByteClockedOut h => Sys2Proof.Machine.execStatusByteClockedOut h s
  | .frameEnd h bytes fda => Sys2Proof.Machine.execFrameEnd h bytes fda s
  | .responseExpiry h => Sys2Proof.Machine.execResponseExpiry h s
  | .poll h tag payload check => Sys2Proof.Machine.execPoll h tag payload check s
  | .laneClaim h tag p => Sys2Proof.Machine.execLaneClaim h tag p s
  | .laneRelease h tag p => Sys2Proof.Machine.execLaneRelease h tag p s
  | .laneHandover h tag p => Sys2Proof.Machine.execLaneHandover h tag p s
  | .laneAdopt h tag p => Sys2Proof.Machine.execLaneAdopt h tag p s
  | .laneConfig h tag p => Sys2Proof.Machine.execLaneConfig h tag p s
  | .laneArm h tag p => Sys2Proof.Machine.execLaneArm h tag p s
  | .laneDisarm h tag p => Sys2Proof.Machine.execLaneDisarm h tag p s
  | .laneRun h tag p => Sys2Proof.Machine.execLaneRun h tag p s
  | .laneStop h tag p => Sys2Proof.Machine.execLaneStop h tag p s
  | .laneQuery h tag p => Sys2Proof.Machine.execLaneQuery h tag p s
  | .laneQueryClear h tag p => Sys2Proof.Machine.execLaneQueryClear h tag p s
  | .progAppend h tag p => Sys2Proof.Machine.execProgAppend h tag p s
  | .progInsert h tag p => Sys2Proof.Machine.execProgInsert h tag p s
  | .progReplace h tag p => Sys2Proof.Machine.execProgReplace h tag p s
  | .progRemove h tag p => Sys2Proof.Machine.execProgRemove h tag p s
  | .progClear h tag p => Sys2Proof.Machine.execProgClear h tag p s
  | .progPatch h tag p => Sys2Proof.Machine.execProgPatch h tag p s
  | .progRead h tag p => Sys2Proof.Machine.execProgRead h tag p s
  | .resultRead h tag p => Sys2Proof.Machine.execResultRead h tag p s
  | .resultWatch h tag p => Sys2Proof.Machine.execResultWatch h tag p s
  | .resultUnwatch h tag p => Sys2Proof.Machine.execResultUnwatch h tag p s
  | .eventFetch h tag p => Sys2Proof.Machine.execEventFetch h tag p s
  | .eventMask h tag p => Sys2Proof.Machine.execEventMask h tag p s
  | .directSubmit h tag p => Sys2Proof.Machine.execDirectSubmit h tag p s
  | .linkEnable h tag p fda => Sys2Proof.Machine.execLinkEnable h tag p fda s
  | .linkDisable h tag p => Sys2Proof.Machine.execLinkDisable h tag p s
  | .linkReset h tag p fda => Sys2Proof.Machine.execLinkReset h tag p fda s
  | .leaseTake h tag p => Sys2Proof.Machine.execLeaseTake h tag p s
  | .leaseRenew h tag p => Sys2Proof.Machine.execLeaseRenew h tag p s
  | .leaseDrop h tag p => Sys2Proof.Machine.execLeaseDrop h tag p s
  | .timerSet h tag p => Sys2Proof.Machine.execTimerSet h tag p s
  | .settingsWrite h tag p => Sys2Proof.Machine.execSettingsWrite h tag p s
  | .settingsRead h tag p => Sys2Proof.Machine.execSettingsRead h tag p s
  | .deviceQuery h tag p => Sys2Proof.Machine.execDeviceQuery h tag p s
  | .trgSample x level => Sys2Proof.Machine.execTrgSample x level s
  | .timerExpiry t => Sys2Proof.Machine.execTimerExpiry t s
  | .chainTrigger y => Sys2Proof.Machine.execChainTrigger y s
  | .grant fda => Sys2Proof.Machine.execGrant fda s
  | .segmentGuardEnd fda => Sys2Proof.Machine.execSegmentGuardEnd fda s
  | .frameFullySent => Sys2Proof.Machine.execFrameFullySent s
  | .replyTimeout => Sys2Proof.Machine.execReplyTimeout s
  | .replyEnd reply => Sys2Proof.Machine.execReplyEnd reply s
  | .gapEnd fda => Sys2Proof.Machine.execGapEnd fda s
  | .retryExpiry who => Sys2Proof.Machine.execRetryExpiry who s
  | .probeTimerExpiry => Sys2Proof.Machine.execProbeTimerExpiry s
  | .leaseExpiry => Sys2Proof.Machine.execLeaseExpiry s
  | .lineFault => Sys2Proof.Machine.execLineFault s
  | .recoveryWatchRestart => Sys2Proof.Machine.execRecoveryWatchRestart s
  | .recoveryWatchExpiry => Sys2Proof.Machine.execRecoveryWatchExpiry s
  | .lineResetGuardEnd fda => Sys2Proof.Machine.execLineResetGuardEnd fda s
  | .lineResetDriveEnd => Sys2Proof.Machine.execLineResetDriveEnd s
  | .lineResetHoldEnd fda => Sys2Proof.Machine.execLineResetHoldEnd fda s
  | .replyStartMark => Sys2Proof.Machine.execReplyStartMark s

end Sys2Proof.Machine
end

