-- ==== Sys2Proof/Safety.lean ====
section
/-! DEFINITION. What a sound state of the FS-48 is, in the terms the statements use: the laws that the rules give the
step pool, the banks, the ports in reset, the counts, the lanes and the link, and the readings of a command that
the statements share. -/

namespace Sys2Proof.Machine

/-! ### Step pool (R3, R4, R5) -/

/-- The step records placed in programs. -/
def State.placed (s : State) : Nat := (allLanes.map fun l => (s.lane l).program.length).sum

/-- The total length of the programs of the lanes a host owns. -/
def State.ownedSteps (s : State) (h : HostId) : Nat :=
  (allLanes.map fun l => if (s.lane l).owner = some h then (s.lane l).program.length else 0).sum

/-- The free count and the placed records make the pool, each usage is what its host's lanes hold and no more than the
quota, a FREE lane has an empty program and no program is longer than 64 steps (R3 to R5, R21). -/
abbrev State.PoolOk (s : State) : Prop :=
  s.freeCount + s.placed = Config.poolSize
    ∧ (∀ h : HostId, s.usageOf h = s.ownedSteps h ∧ s.usageOf h ≤ s.quotaOf h)
    ∧ ∀ l : LaneId, ((s.lane l).condition = .free → (s.lane l).program = [])
        ∧ (s.lane l).program.length ≤ Config.programMax

/-! ### Banks and pins (R121, R129, R172) -/

/-- The bank a port's response is drawn from. -/
def Port.drawsFrom (p : Port) : Option (LaneId × BankId) :=
  match p.state with
  | .ready r => r.reply.pins
  | _ => none

/-- What a port's request in progress waits for. -/
def Port.waitsFor (p : Port) : Option HeldKind :=
  match p.state with
  | .busy q => some q.kind
  | _ => none

/-- A write bank is never the front bank and is never pinned, a port pins the bank its RESULT_READ response is drawn
from and no other, and every port is IN_RESET while PORn is low. -/
abbrev State.BanksOk (s : State) : Prop :=
  (s.porLow = true → ∀ h : HostId, (s.port h).state = .inReset)
    ∧ (∀ l : LaneId, ∀ b : BankId, (s.lane l).write = some b → (s.lane l).front ≠ some b ∧ s.pinned l b = false)
    ∧ ∀ h : HostId, (s.port h).pin = (s.port h).drawsFrom

/-! ### Ports in reset (R148, R170) -/

/-- The host of a port in reset owns nothing and is owed nothing. -/
abbrev State.ResetPortsOk (s : State) : Prop :=
  ∀ h : HostId, s.inReset h = true →
    s.mailbox h = .fresh ∧ s.directQueue h = [] ∧ s.lease ≠ some h ∧ (s.port h).pin = none
      ∧ (s.port h).sticky = .clear
      ∧ ∀ l : LaneId, (s.lane l).owner ≠ some h ∧ look (s.lane l).subscribers h = false

/-! ### Counts (R47, R74, R97, R136, R139) -/

/-- No count and no queue goes beyond its end. -/
abbrev State.CountsOk (s : State) : Prop :=
  (∀ h : HostId, (s.mailbox h).queue.length ≤ Config.queueMax ∧ (s.mailbox h).lost ≤ Config.countMax
      ∧ (s.directQueue h).length ≤ Config.directMax)
    ∧ (∀ l : LaneId, (s.lane l).overrun ≤ Config.countMax)
    ∧ ∀ seg : SegmentId, ∀ st : StationId, (s.station seg st).failures ≤ Config.failureMax

/-! ### Link (R65, R91, R94, R100, R108) -/

/-- A transaction is on the line, its gap apart. -/
def LinkState.transacts : LinkState → Bool
  | .switching | .sending | .awaitReply _ | .receiving => true
  | _ => false

/-- Grants are made in this link state. -/
def LinkState.inService : LinkState → Bool
  | .off | .lineReset _ | .faulted => false
  | _ => true

/-- An attempt is in flight exactly where one may be: in a transaction, and in the gap of a BROADCAST. No BREAK is in
execution or a direct request, no step is in execution while no grants are made, a LINK_DISABLE waits only in a state
that it may wait in and a held response to one only while one waits, and a FAULTED link has announced its fault. -/
abbrev State.LinkOk (s : State) : Prop :=
  (s.exec.any (·.inFlight) = true
      ↔ s.link.transacts = true ∨ (s.link = .gap ∧ s.exec.any (fun e => e.inFlight && e.step.isBroadcast) = true))
    ∧ (∀ e ∈ s.exec, e.step.segment.isSome = true)
    ∧ (∀ h : HostId, ∀ r ∈ s.directQueue h, r.step.segment.isSome = true)
    ∧ (s.link.inService = false → s.exec = none)
    ∧ (s.disableWaiting = true → s.link ≠ .off ∧ s.link ≠ .idle ∧ s.link ≠ .faulted)
    ∧ (∀ h : HostId, (s.port h).waitsFor = some .linkOff → s.disableWaiting = true)
    ∧ (s.link = .faulted → s.faultAnnounced = true)

/-! ### Lanes (R21, R22, R59, R110) -/

/-- The run states in which the write bank is present (R22). -/
def RunState.hasBank : RunState → Bool
  | .ready | .running | .suspended | .retryWait | .atBreak | .stopping => true
  | _ => false

/-- The run states inside a pass. -/
def RunState.inPass : RunState → Bool
  | .idle | .armed | .halted => false
  | _ => true

/-- The step at a lane's position is one the executor may run. -/
def Lane.atStep (x : Lane) : Bool :=
  match x.program[x.position]? with
  | some st => st.segment.isSome
  | none => false

/-- The fields of a lane record agree with its condition and its run state. -/
abbrev Lane.Ok (x : Lane) : Prop :=
  (x.condition = .free → x.run = .idle ∧ x.program = [] ∧ x.front = none ∧ x.subscribers = fill 4 false)
    ∧ (x.condition = .orphan → x.run = .idle ∨ x.run = .stopping)
    ∧ x.write.isSome = x.run.hasBank
    ∧ x.waiting = (x.run == .bankWait)
    ∧ (x.run = .idle ∨ x.run = .armed → x.position = 0)
    ∧ (x.run.inPass = false → x.disarmAtEnd = false ∧ x.pending = false)
    ∧ (x.run = .atBreak → x.pending = false)
    ∧ (x.run.inPass = true → x.position ≤ x.program.length ∧ x.errorCount ≤ x.position)
    ∧ x.program.length ≤ Config.programMax
    ∧ x.errorCount ≤ Config.programMax
    ∧ (1 ≤ x.config.limit ∧ x.config.limit ≤ 8)
    ∧ (x.held.isSome = true → x.run = .ready ∨ x.run = .retryWait)
    ∧ (x.run = .retryWait → x.held.isSome = true)
    ∧ ∀ k ∈ x.held, k.attempts < x.config.limit ∧ x.atStep = true

/-- The holder brings a step under its own attempt limit: a lane its step at its position, a direct head itself, out of
retry wait. -/
def Execution.brought (s : State) (e : Execution) : Bool :=
  match e.holder with
  | .lane l => (s.lane l).atStep && e.limit == (s.lane l).config.limit
  | .direct h => (s.directQueue h).head?.any fun r => r.retryLeft.isNone && e.limit == r.limit
  | .discarded => e.inFlight
  | .probe => e.step.asks == 1

/-- What holds of the step in execution. -/
abbrev Execution.Ok (s : State) (e : Execution) : Prop :=
  e.attempts < e.limit ∧ e.limit ≤ 8 ∧ Execution.brought s e = true

/-- The lane table agrees with itself and with the executor: a lane is RUNNING or STOPPING exactly while its step is in
execution, attempts never pass their limit, and a held LANE_STOP belongs to a lane in STOPPING. -/
abbrev State.LanesOk (s : State) : Prop :=
  (∀ l : LaneId, (s.lane l).Ok)
    ∧ (∀ l : LaneId, ((s.lane l).run = .running ∨ (s.lane l).run = .stopping)
        ↔ s.exec.any (fun e => e.holder == .lane l) = true)
    ∧ (∀ e ∈ s.exec, Execution.Ok s e)
    ∧ (∀ h : HostId, ∀ r ∈ s.directQueue h, r.attempts < r.limit ∧ r.limit ≤ 8)
    ∧ (∀ h : HostId, ∀ l : LaneId, (s.port h).waitsFor = some (.laneStop l) → (s.lane l).run = .stopping)

/-! ### Reading a command -/

/-- The port takes a request: it is neither BUSY nor IN_RESET (R164, R171). -/
def State.accepts (s : State) (h : HostId) : Bool :=
  match (s.port h).state with
  | .idle | .ready _ => true
  | .busy _ | .inReset => false

/-- A step that carries a data list of its own (R17). -/
def Step.patchable : Step → Bool
  | .write .. | .broadcast .. => true
  | _ => false

/-- The step is a COPY. -/
def Step.copies : Step → Bool
  | .copy .. => true
  | _ => false

/-- The data a frame of a step carries if it starts now (R18, R76, R101, R104): none for a READ; what the step record at the
lane's position holds now for a lane's WRITE or BROADCAST; what it was submitted with for a direct one; and for a COPY
the data of its record in the front bank of its source lane, if that lane is not FREE and the record is DONE with 1 to 8
bytes. -/
def State.carries (s : State) (e : Execution) (data : List Byte) : Prop :=
  match e.step with
  | .read .. => data = []
  | .write _ _ _ own _ | .broadcast _ _ own _ =>
    match e.holder with
    | .lane l =>
      (∃ seg n idx into, (s.lane l).program[(s.lane l).position]? = some (.write seg n idx data into))
        ∨ ∃ seg idx into, (s.lane l).program[(s.lane l).position]? = some (.broadcast seg idx data into)
    | .direct _ | .discarded | .probe => own = data
  | .copy _ _ _ y r _ =>
    (s.lane y).condition ≠ .free
      ∧ ∃ b, (s.lane y).front = some b ∧ (look (s.bank y b).records r).outcome = some .done
        ∧ (look (s.bank y b).records r).data = data ∧ 1 ≤ data.length ∧ data.length ≤ 8
  | .brk _ => False

/-- The write toggle a frame of a step carries if it starts now: its station's for a WRITE or a COPY, otherwise 0 (R98). -/
def State.carriedToggle (s : State) : Step → Bool
  | .write seg n .. => (s.station seg n).toggle
  | .copy seg n .. => (s.station seg n).toggle
  | _ => false

/-- The state in which an attempt has begun whose frame carries the data given (R87, R88): its frame goes out on the
current segment, or its segment is selected and the guard runs. -/
def State.begun (s : State) (e : Execution) (seg : SegmentId) (data : List Byte) : State :=
  if seg = s.segment then
    { s with
      exec := some { e with captured := ⟨data, s.carriedToggle e.step⟩ }
      link := .sending
      phaseLeft := s.bits (34 + 8 * data.length) }
  else { s with exec := some e, link := .switching, segment := seg, phaseLeft := s.guardTime }

/-- The number of a candidate counted from the pointer on (R63): the next after the pointer is 0, the pointer's own last. -/
def turn (n : Nat) (pointer : Option (Fin n)) (i : Fin n) : Nat :=
  match pointer with
  | some p => (i.val + n - p.val - 1) % n
  | none => i.val

/-- The number of a station counted from the last-probed one on, in the order of R81: segment 0 station 0 to segment 3
station 30, and round again. -/
def stationTurn (last : Option (SegmentId × StationId)) (a : SegmentId × StationId) : Nat :=
  let place (b : SegmentId × StationId) : Fin 124 := ⟨31 * b.1.val + b.2.val, by omega⟩
  turn 124 (last.map place) (place a)

end Sys2Proof.Machine

namespace Sys2Proof

/-- The port and the tag of a request; none for every other command. -/
def Instr.asked : Instr → Option (HostId × Byte)
  | .laneClaim h tag _ | .laneRelease h tag _ | .laneHandover h tag _ | .laneAdopt h tag _ | .laneConfig h tag _
  | .laneArm h tag _ | .laneDisarm h tag _ | .laneRun h tag _ | .laneStop h tag _ | .laneQuery h tag _
  | .laneQueryClear h tag _ | .progAppend h tag _ | .progInsert h tag _ | .progReplace h tag _
  | .progRemove h tag _ | .progClear h tag _ | .progPatch h tag _ | .progRead h tag _ | .resultRead h tag _
  | .resultWatch h tag _ | .resultUnwatch h tag _ | .eventFetch h tag _ | .eventMask h tag _
  | .directSubmit h tag _ | .linkEnable h tag _ _ | .linkDisable h tag _ | .linkReset h tag _ _
  | .leaseTake h tag _ | .leaseRenew h tag _ | .leaseDrop h tag _ | .timerSet h tag _ | .settingsWrite h tag _
  | .settingsRead h tag _ | .deviceQuery h tag _ => some (h, tag)
  | .powerOn | .powerOnRelease | .portReset _ | .portResetRelease _ | .frameStart _ | .statusByteClockedOut _
  | .frameEnd _ _ _ | .responseExpiry _ | .poll _ _ _ _ | .trgSample _ _ | .timerExpiry _ | .chainTrigger _
  | .grant _ | .segmentGuardEnd _ | .frameFullySent | .replyTimeout | .replyEnd _ | .gapEnd _ | .retryExpiry _
  | .probeTimerExpiry | .leaseExpiry | .lineFault | .recoveryWatchRestart | .recoveryWatchExpiry
  | .lineResetGuardEnd _ | .lineResetDriveEnd | .lineResetHoldEnd _ | .replyStartMark => none

/-- The payload does not fit the layout of its request. -/
def Payload.isMisfit {α : Type} : Payload α → Bool
  | .fits _ => false
  | .misfit => true

/-- The command is a request whose payload does not fit its layout. -/
def Instr.misfits : Instr → Bool
  | .laneClaim _ _ p => p.isMisfit
  | .laneHandover _ _ p => p.isMisfit
  | .laneConfig _ _ p => p.isMisfit
  | .laneRelease _ _ p | .laneAdopt _ _ p | .laneArm _ _ p | .laneDisarm _ _ p | .laneRun _ _ p | .laneStop _ _ p
  | .laneQuery _ _ p | .laneQueryClear _ _ p | .progClear _ _ p | .resultWatch _ _ p | .resultUnwatch _ _ p
  | .eventFetch _ _ p => p.isMisfit
  | .progAppend _ _ p => p.isMisfit
  | .progInsert _ _ p | .progReplace _ _ p => p.isMisfit
  | .progRemove _ _ p => p.isMisfit
  | .progPatch _ _ p => p.isMisfit
  | .progRead _ _ p => p.isMisfit
  | .resultRead _ _ p => p.isMisfit
  | .eventMask _ _ p => p.isMisfit
  | .directSubmit _ _ p => p.isMisfit
  | .linkEnable _ _ p _ | .linkDisable _ _ p | .linkReset _ _ p _ | .leaseTake _ _ p | .leaseRenew _ _ p
  | .leaseDrop _ _ p | .settingsRead _ _ p | .deviceQuery _ _ p => p.isMisfit
  | .timerSet _ _ p => p.isMisfit
  | .settingsWrite _ _ p => p.isMisfit
  | _ => false

/-- The lane byte of a request that names a lane. -/
def Instr.laneByte : Instr → Option Byte
  | .laneClaim _ _ (.fits (.lane n)) => some n
  | .laneHandover _ _ (.fits a) => some a.lane
  | .laneConfig _ _ (.fits a) => some a.lane
  | .laneRelease _ _ (.fits n) | .laneAdopt _ _ (.fits n) | .laneArm _ _ (.fits n) | .laneDisarm _ _ (.fits n)
  | .laneRun _ _ (.fits n) | .laneStop _ _ (.fits n) | .laneQuery _ _ (.fits n) | .laneQueryClear _ _ (.fits n)
  | .progClear _ _ (.fits n) | .resultWatch _ _ (.fits n) | .resultUnwatch _ _ (.fits n) => some n
  | .progAppend _ _ (.fits a) => some a.lane
  | .progInsert _ _ (.fits a) | .progReplace _ _ (.fits a) => some a.lane
  | .progRemove _ _ (.fits a) => some a.lane
  | .progPatch _ _ (.fits a) => some a.lane
  | .progRead _ _ (.fits a) => some a.lane
  | .resultRead _ _ (.fits a) => some a.lane
  | _ => none

/-- The request is accepted from the lane's owner alone (R8, R24, R40, R50). -/
def Instr.ownerOnly : Instr → Bool
  | .laneRelease .. | .laneHandover .. | .laneConfig .. | .laneArm .. | .laneDisarm .. | .laneRun .. | .laneStop ..
  | .laneQueryClear .. | .progAppend .. | .progInsert .. | .progReplace .. | .progRemove .. | .progClear ..
  | .progPatch .. => true
  | _ => false

/-- The owner-only request acts on a lane in STOPPING too (R17, R24). -/
def Instr.actsInStopping : Instr → Bool
  | .laneQueryClear .. | .progPatch .. => true
  | _ => false

/-- The arguments that are checked before ownership are in range (R9, R24, R31): the target host, the configuration
entries, the number of steps appended. -/
def Instr.ranged : Instr → Bool
  | .laneHandover _ _ (.fits a) => decide (a.target.toNat < 4)
  | .laneConfig _ _ (.fits a) => (Machine.newConfig Machine.LaneConfig.default a.entries).isSome
  | .progAppend _ _ (.fits a) => decide (1 ≤ a.steps.length) && decide (a.steps.length ≤ 4)
  | _ => true

end Sys2Proof
end

