-- ==== Sys2Proof/Certificates/Slice0/Obligations.lean ====
section
/-! DEFINITION. The statements for the provers. A result is written as the whole next state, so that each equation is its
own frame: what the right side does not name is unchanged. `respond`, `hold`, `releasePin` and the events are spelled out
by statements of their own. -/

section Statements
open Sys2Proof Sys2Proof.Machine

/-! ### The machine -/

/-- The row's form: the command at the front of the queue is run on the state with the queue's rest. -/
def Obligations.StepRunsTheCommandInFront : Prop :=
  ∀ (s : State) (c : Instr) (rest : List Instr), s.pending = c :: rest → step s = exec c { s with pending := rest }

/-- The model's choice for an empty queue (log 3): nothing at power-on, else a chain trigger due, else a grant at a grant
point, else one microsecond, in which the timestamp counter advances by one (R158), every count runs down, the recovery
watch in FAULTED alone, and an expiry whose count ends joins the queue. In FAULTED each reading of FDA low is a
RECOVERY_WATCH_RESTART, so such a microsecond is one in which FDA reads high (R94, log 5). -/
def Obligations.StepWithNothingWaiting : Prop :=
  ∀ (s : State), s.pending = [] →
    (s.porLow = true → step s = .next s)
      ∧ (s.porLow = false → ∀ y rest, s.chainDue = y :: rest → step s = exec (.chainTrigger y) s)
      ∧ (s.porLow = false → s.chainDue = [] → s.grantPoint = true → step s = exec (.grant s.fda) s)
      ∧ (s.porLow = false → s.chainDue = [] → s.grantPoint = false →
          ∃ t, step s = .next t ∧ t.timestamp = s.timestamp + 1 ∧ t.pending = s.due
            ∧ t.phaseLeft = s.phaseLeft - 1 ∧ t.leaseLeft = s.leaseLeft - 1
            ∧ t.watchLeft = (if s.link = .faulted then s.watchLeft - 1 else s.watchLeft)
            ∧ t.probe = { s.probe with left := s.probe.left.map fun n => n - 1 }
            ∧ (∀ i, t.timer i = { s.timer i with left := (s.timer i).left - 1 })
            ∧ (∀ l, t.lane l = { s.lane l with retryLeft := (s.lane l).retryLeft - 1 })
            ∧ (∀ h, t.port h = { s.port h with expiry := (s.port h).expiry - 1 })
            ∧ (∀ h, s.directQueue h = [] → t.directQueue h = [])
            ∧ (∀ h r rest, s.directQueue h = r :: rest →
                t.directQueue h = { r with retryLeft := r.retryLeft.map fun n => n - 1 } :: rest)
            ∧ (∀ i, .timerExpiry i ∈ t.pending ↔ (s.timer i).running = true ∧ (s.timer i).left = 1)
            ∧ (.leaseExpiry ∈ t.pending ↔ s.lease ≠ none ∧ s.leaseLeft = 1)
            ∧ (.probeTimerExpiry ∈ t.pending ↔ s.probe.left = some 1)
            ∧ (.recoveryWatchExpiry ∈ t.pending ↔ s.link = .faulted ∧ s.watchLeft = 1)
            ∧ (.replyTimeout ∈ t.pending ↔ s.link = .awaitReply false ∧ s.phaseLeft = 1)
            ∧ t.link = s.link ∧ t.exec = s.exec ∧ t.mail = s.mail ∧ t.banks = s.banks ∧ t.stations = s.stations
            ∧ t.settings = s.settings ∧ t.usage = s.usage ∧ t.freeCount = s.freeCount ∧ t.lease = s.lease)

/-- Every command has a next state, and leaves the queue of the commands that wait to `step`. The model's
choices behind it: one queue, a stray command without effect (log 2), and no command that stops (log 29). -/
def Obligations.EveryCommandAnswersANextState : Prop :=
  ∀ (s : State) (i : Instr), ∃ t, exec i s = .next t ∧ t.pending = s.pending

/-- The power-on state meets every law below. -/
def Obligations.PowerOnStateIsSound : Prop :=
  State.reset.PoolOk ∧ State.reset.BanksOk ∧ State.reset.ResetPortsOk ∧ State.reset.CountsOk ∧ State.reset.LinkOk
    ∧ State.reset.LanesOk

/-- From R3, R5: the step pool's accounting and the quotas hold after every step. -/
def Obligations.EveryStepKeepsThePool : Prop := ∀ (s t : State), s.PoolOk → step s = .next t → t.PoolOk

/-- From R121, R129, R172: a write bank is never front and never pinned, pins follow responses, and every port is IN_RESET while
PORn is low, after every step. -/
def Obligations.EveryStepKeepsTheBanks : Prop := ∀ (s t : State), s.BanksOk → step s = .next t → t.BanksOk

/-- From R148, R170: the host of a port in reset owns nothing and is sent nothing. -/
def Obligations.EveryStepKeepsResetPortsEmpty : Prop :=
  ∀ (s t : State), s.ResetPortsOk → step s = .next t → t.ResetPortsOk

/-- From R47, R74, R97, R136, R139: no queue and no count passes its end. -/
def Obligations.EveryStepKeepsTheCounts : Prop := ∀ (s t : State), s.CountsOk → step s = .next t → t.CountsOk

/-- From R65, R91, R94, R100, R108: an attempt is in flight exactly in a transaction and in the gap of a BROADCAST, no BREAK is
executed, and no step is in execution out of service. -/
def Obligations.EveryStepKeepsTheLink : Prop := ∀ (s t : State), s.LinkOk → step s = .next t → t.LinkOk

/-- From R21, R22, R59, R110: lane records agree with their run states, one holder has the grant, and attempts stay under
their limit. -/
def Obligations.EveryStepKeepsTheLanes : Prop := ∀ (s t : State), s.LanesOk → step s = .next t → t.LanesOk

/-! ### Frames and ports -/

/-- From R161, R173, R174: a request spelled by its format decodes to itself, and its payload is one a frame can carry. -/
def Obligations.RequestEncodingDecodesToItself : Prop :=
  ∀ (i : Instr) (f : RequestFrame) (fda : Level), i.wf = true → encodeRequest i = some f → readsFda i fda = true →
    decodeRequest f.host f.tag f.code f.payload fda = some i ∧ f.payload.length ≤ 250

/-- From R161, R164, R175: the request bytes of a frame are read back whatever trails them; a frame that is too short, too long
or wrong in its check byte is no request. -/
def Obligations.RequestBytesAreReadBack : Prop :=
  ∀ (code tag len : Byte) (payload rest : List Byte),
    (payload.length ≤ 250 → parseFrame (frameBytes code tag payload ++ rest) = some (code, tag, payload))
      ∧ ((rest.length ≤ len.toNat ∨ 250 < len.toNat
            ∨ rest[len.toNat]? ≠ some (crc (code :: tag :: len :: rest.take len.toNat))) →
          parseFrame (code :: tag :: len :: rest) = none)
      ∧ parseFrame [] = none ∧ parseFrame [code] = none ∧ parseFrame [code, tag] = none

/-- From R163 to R165: the end of a frame takes the request its bytes spell, on the state in which the frame is over and its
status byte is out (log 20). A response the frame clocked out has left the port before: its pin is released, the records
of a fetch delivered whole are gone, and one cut short has set TRUNCATED. -/
def Obligations.FrameEndTakesItsRequest : Prop :=
  ∀ (s : State) (f : Frame) (i : Instr) (r : RequestFrame) (rest : List Byte) (fda : Level) (old : Response)
    (count lost left : Nat),
    (s.port r.host).frame = .inFrame f → i.wf = true → encodeRequest i = some r → readsFda i fda = true →
      let bytes := frameBytes r.code r.tag r.payload ++ rest
      let got := exec (.frameEnd r.host bytes fda) s
      let p : Port := { (s.port r.host).statusOut with frame := .none }
      let q : Port := { p with state := .idle }
      (f.carries = false → got = exec i (s.setPort r.host p))
        ∧ (f.carries = true → (s.port r.host).state = .ready old →
            (bytes.length < f.out.length →
                got = exec i ((s.setPort r.host { q with
                  sticky := { q.sticky with truncated := true } }).releasePin r.host))
              ∧ (f.out.length ≤ bytes.length → old.reply = .events count lost left →
                got = exec i (((s.setPort r.host q).releasePin r.host).setMailbox r.host { s.mailbox r.host with
                  queue := (s.mailbox r.host).queue.drop count
                  lost := (s.mailbox r.host).lost - lost }))
              ∧ (f.out.length ≤ bytes.length → (∀ a b c, old.reply ≠ .events a b c) →
                got = exec i ((s.setPort r.host q).releasePin r.host)))

/-- From R163, R164, R167, R168, R171: the ends of frames that bring no request: an ignored frame, a frame of no whole byte,
a POLL, and request bytes that are malformed, of a code that the catalogue does not have, or of code 00h with a payload,
which are answered once the response the frame clocked out, if it began with one, has left the port. At a BUSY port all
but a POLL is dropped (log 20). -/
def Obligations.FrameEndWithoutARequest : Prop :=
  ∀ (s : State) (h : HostId) (f : Frame) (bytes : List Byte) (code tag : Byte) (payload : List Byte) (fda : Level)
    (r : Response) (count lost left : Nat),
    let got := exec (.frameEnd h bytes fda) s
    let p : Port := { (s.port h).statusOut with frame := .none }
    let q : Port := { p with state := .idle }
    let refused (u : State) : Prop :=
      (parseFrame bytes = none → got = .next (u.respond h (bytes.getD 1 0x00#8) .badFrame .nothing))
        ∧ (parseFrame bytes = some (code, tag, payload) → code ≠ 0x00#8 →
            decodeRequest h tag code payload fda = none → got = .next (u.respond h tag .unknownRequest .nothing))
        ∧ (parseFrame bytes = some (0x00#8, tag, payload) → payload ≠ [] →
            got = .next (u.respond h tag .badArgument .nothing))
    ((s.port h).frame = .ignored → got = .next (s.setPort h { s.port h with frame := .none }))
      ∧ ((s.port h).frame = .inFrame f → f.carries = false ∨ (s.port h).expiry ≠ 0 →
          exec (.frameEnd h [] fda) s = .next (s.setPort h { s.port h with frame := .none }))
      ∧ ((s.port h).frame = .inFrame f → f.carries = true → (s.port h).expiry = 0 → (s.port h).state = .ready r →
          exec (.frameEnd h [] fda) s
            = .next ((s.setPort h { s.port h with
                frame := .none
                state := .idle
                sticky := { (s.port h).sticky with expired := true } }).releasePin h))
      ∧ ((s.port h).frame = .inFrame f → bytes ≠ [] →
          (f.carries = false → parseFrame bytes = some (0x00#8, tag, []) → got = .next (s.setPort h p))
            ∧ (f.carries = false → s.accepts h = true → refused (s.setPort h p))
            ∧ (f.carries = true → (s.port h).state = .ready r →
              (bytes.length < f.out.length →
                  refused ((s.setPort h { q with sticky := { q.sticky with truncated := true } }).releasePin h))
                ∧ (f.out.length ≤ bytes.length → r.reply = .events count lost left →
                  refused (((s.setPort h q).releasePin h).setMailbox h { s.mailbox h with
                    queue := (s.mailbox h).queue.drop count
                    lost := (s.mailbox h).lost - lost }))
                ∧ (f.out.length ≤ bytes.length → (∀ a b c, r.reply ≠ .events a b c) →
                  refused ((s.setPort h q).releasePin h)))
            ∧ ((s.port h).isBusy = true → (∀ n, parseFrame bytes ≠ some (0x00#8, n, [])) →
              got = .next (s.setPort h { p with sticky := { p.sticky with dropped := true } })))

/-- From R161, R162, R169, R171, R173: a frame begins with the status byte and the response that is ready, followed by filler,
or is ignored in reset, where filler alone goes out; the response is its status code, tag, length and payload with their
check byte; the status byte shows the eight flags; and its last bit clears the sticky flags it reported, also one set
again in between, the model's reading (log 27). -/
def Obligations.FrameBeginsWithTheStatusByte : Prop :=
  ∀ (s : State) (h : HostId) (r : Response) (f : Frame),
    let payload := Reply.bytes s h r.reply
    let body := [r.status.code, r.tag, BitVec.ofNat 8 (payload.length / 256), BitVec.ofNat 8 payload.length] ++ payload
    let begins := exec (.frameStart h) s
    ((s.port h).frame = .none → (s.port h).state = .inReset →
        begins = .next (s.setPort h { s.port h with frame := .ignored }))
      ∧ ((s.port h).frame = .none → (s.port h).state = .ready r →
          begins = .next (s.setPort h { s.port h with
            frame := .inFrame ⟨(s.port h).sticky, false, true, s.statusByte h :: r.bytes s h⟩ }))
      ∧ ((s.port h).frame = .none → (s.port h).state ≠ .inReset → (s.port h).isReady = false →
          begins = .next (s.setPort h { s.port h with
            frame := .inFrame ⟨(s.port h).sticky, false, false, [s.statusByte h]⟩ }))
      ∧ r.bytes s h = body ++ [crc body]
      ∧ ((s.port h).frame = .none → (s.port h).state = .inReset →
          ∃ t, begins = .next t ∧ ∀ i, (t.port h).sends i = some 0xFF#8)
      ∧ ((s.port h).frame = .none → (s.port h).state = .ready r →
          ∃ t, begins = .next t ∧ (t.port h).sends 0 = some (s.statusByte h)
            ∧ ∀ i, (t.port h).sends (i + 1) = some ((body ++ [crc body]).getD i 0xFF#8))
      ∧ ((s.port h).frame = .none → (s.port h).state ≠ .inReset → (s.port h).isReady = false →
          ∃ t, begins = .next t ∧ (t.port h).sends 0 = some (s.statusByte h)
            ∧ ∀ i, (t.port h).sends (i + 1) = some 0xFF#8)
      ∧ ((s.port h).frame = .inFrame f → f.statusDone = false →
          exec (.statusByteClockedOut h) s = .next (s.setPort h { s.port h with
            frame := .inFrame { f with statusDone := true }
            sticky :=
              { truncated := (s.port h).sticky.truncated && !f.reported.truncated
                dropped := (s.port h).sticky.dropped && !f.reported.dropped
                lostResponse := (s.port h).sticky.lostResponse && !f.reported.lostResponse
                expired := (s.port h).sticky.expired && !f.reported.expired } }))
      ∧ (s.statusByte h).getLsbD 7 = (s.port h).isReady ∧ (s.statusByte h).getLsbD 6 = (s.port h).isBusy
      ∧ (s.statusByte h).getLsbD 5 = !(s.mailbox h).queue.isEmpty
      ∧ (s.statusByte h).getLsbD 4 = (s.lease == some h)
      ∧ (s.statusByte h).getLsbD 3 = (s.port h).sticky.truncated
      ∧ (s.statusByte h).getLsbD 2 = (s.port h).sticky.dropped
      ∧ (s.statusByte h).getLsbD 1 = (s.port h).sticky.lostResponse
      ∧ (s.statusByte h).getLsbD 0 = (s.port h).sticky.expired

/-- From R143, R144, R163, R167: the end of a frame, here one that brings a POLL, takes the response it clocked out off the
port; delivered whole, the records of a fetch leave the queue; cut short, TRUNCATED is set and the queue stays (log 20). -/
def Obligations.FrameEndSettlesTheResponse : Prop :=
  ∀ (s : State) (h : HostId) (f : Frame) (r : Response) (bytes : List Byte) (tag : Byte) (fda : Level)
    (count lost left : Nat),
    (s.port h).frame = .inFrame f → f.carries = true → (s.port h).state = .ready r → bytes ≠ [] →
    parseFrame bytes = some (0x00#8, tag, []) →
      let q : Port := { (s.port h).statusOut with frame := .none, state := .idle }
      (bytes.length < f.out.length →
          exec (.frameEnd h bytes fda) s
            = .next ((s.setPort h { q with sticky := { q.sticky with truncated := true } }).releasePin h))
        ∧ (f.out.length ≤ bytes.length → r.reply = .events count lost left →
          exec (.frameEnd h bytes fda) s
            = .next (((s.setPort h q).releasePin h).setMailbox h { s.mailbox h with
                queue := (s.mailbox h).queue.drop count
                lost := (s.mailbox h).lost - lost }))
        ∧ (f.out.length ≤ bytes.length → (∀ a b c, r.reply ≠ .events a b c) →
          exec (.frameEnd h bytes fda) s = .next ((s.setPort h q).releasePin h))

/-- From R163, R164, R168: a POLL leaves the port as it is; an expiry whose time has run out takes an unread response off the
port, and none that a frame is clocking out; one that finds the timer started again has no effect (logs 2, 4). -/
def Obligations.PollAndExpiry : Prop :=
  ∀ (s : State) (h : HostId) (r : Response) (f : Frame) (tag : Byte),
    exec (.poll h tag [] (crc [0x00#8, tag, 0x00#8])) s = .next s
      ∧ ((s.port h).state = .ready r → (s.port h).frame = .none → (s.port h).expiry = 0 →
          exec (.responseExpiry h) s
            = .next ((s.setPort h { s.port h with
                state := .idle
                sticky := { (s.port h).sticky with expired := true } }).releasePin h))
      ∧ ((s.port h).state = .ready r → (s.port h).frame = .inFrame f → f.carries = false → (s.port h).expiry = 0 →
          exec (.responseExpiry h) s
            = .next ((s.setPort h { s.port h with
                state := .idle
                sticky := { (s.port h).sticky with expired := true } }).releasePin h))
      ∧ ((s.port h).frame = .inFrame f → f.carries = true → exec (.responseExpiry h) s = .next s)
      ∧ ((s.port h).isReady = false → exec (.responseExpiry h) s = .next s)
      ∧ ((s.port h).expiry ≠ 0 → exec (.responseExpiry h) s = .next s)

/-- From R129, R165, R166, R168: a response becomes ready with its 20 ms; an unread one before it is discarded with
LOST_RESPONSE and its pin is released first; a held request makes the port BUSY. A frame
that was clocking out the discarded response carries none from then on, the model's reading (log 7). -/
def Obligations.ResponseReplacesTheUnreadOne : Prop :=
  ∀ (s : State) (h : HostId) (tag : Byte) (st : Status) (r : Reply) (k : HeldKind) (old : Response),
    let p := s.port h
    let u := (s.setPort h { p with
      state := .idle
      frame := p.frame.uncarry
      sticky := { p.sticky with lostResponse := true } }).releasePin h
    (p.isReady = false →
        s.respond h tag st r = s.setPort h { p with
          state := .ready ⟨st, tag, r⟩
          expiry := 20000
          pin := r.pins.or p.pin }
          ∧ s.hold h tag k = s.setPort h { p with state := .busy ⟨tag, k⟩ })
      ∧ (p.state = .ready old →
          s.respond h tag st r = u.setPort h { u.port h with
            state := .ready ⟨st, tag, r⟩
            expiry := 20000
            pin := r.pins }
            ∧ s.hold h tag k = u.setPort h { u.port h with state := .busy ⟨tag, k⟩ })

/-- From R121, R122, R130: a released pin leaves its set; the lane of its bank, if it waits, takes the lowest bank that is
neither front nor pinned, cleared, and is READY, or waits on. -/
def Obligations.ReleasedPinEndsAWait : Prop :=
  ∀ (s : State) (h : HostId) (l : LaneId) (b c : BankId),
    let u := s.setPort h { s.port h with pin := none }
    ((s.port h).pin = none → s.releasePin h = s)
      ∧ ((s.port h).pin = some (l, b) → (s.lane l).waiting = false → s.releasePin h = u)
      ∧ ((s.port h).pin = some (l, b) → (s.lane l).waiting = true →
          (∀ d : BankId, (s.lane l).front = some d ∨ u.pinned l d = true) →
          s.releasePin h = u.setLane l { s.lane l with run := .bankWait, waiting := true })
      ∧ ((s.port h).pin = some (l, b) → (s.lane l).waiting = true → (s.lane l).front ≠ some c →
          u.pinned l c = false → (∀ d : BankId, d < c → (s.lane l).front = some d ∨ u.pinned l d = true) →
          s.releasePin h
            = (u.setBank l c { s.bank l c with records := fill 64 ⟨none, 0, []⟩ }).setLane l
                { s.lane l with run := .ready, write := some c, waiting := false })

/-- From R8, R24, R164, R169, R171, R174: a request is ignored in reset and dropped while the port is BUSY; a payload that does
not fit its layout, and a lane number above 7, are BAD_ARGUMENT before any other check. -/
def Obligations.RequestsThatAreNotTaken : Prop :=
  ∀ (s : State) (i : Instr) (h : HostId) (tag n : Byte), i.asked = some (h, tag) →
    ((s.port h).state = .inReset → exec i s = .next s)
      ∧ ((s.port h).isBusy = true →
          exec i s = .next (s.setPort h { s.port h with sticky := { (s.port h).sticky with dropped := true } }))
      ∧ (s.accepts h = true → i.misfits = true ∨ (i.laneByte = some n ∧ 8 ≤ n.toNat) →
          exec i s = .next (s.respond h tag .badArgument .nothing))

/-- From R8, R24: a request accepted from the owner alone is NOT_OWNER from any other host, and LANE_STATE in STOPPING, but for
PROG_PATCH and the query that clears. -/
def Obligations.OwnerOnlyRequestsAreRefused : Prop :=
  ∀ (s : State) (i : Instr) (h : HostId) (tag n : Byte) (l : LaneId), i.asked = some (h, tag) → s.accepts h = true →
    i.ownerOnly = true → i.laneByte = some n → n.toNat = l.val → i.ranged = true →
      ((s.lane l).owner ≠ some h → exec i s = .next (s.respond h tag .notOwner .nothing))
        ∧ ((s.lane l).owner = some h → (s.lane l).run = .stopping → i.actsInStopping = false →
            exec i s = .next (s.respond h tag .laneState .nothing))

/-- From R8, R24, R160, R165, R173: a request that is taken is answered once, under its tag: refused, with nothing changed but
the port, or OK, or held. The codes of its answer, and the payloads that no other statement spells: values in the order
their rule lists them, one byte or two each, FFh for what is absent. -/
def Obligations.RequestsAreAnsweredUnderTheirTag : Prop :=
  (∀ (s : State) (i : Instr) (h : HostId) (tag : Byte), i.asked = some (h, tag) → s.accepts h = true →
    (∃ st r, st ≠ .ok ∧ exec i s = .next (s.respond h tag st r))
      ∨ (∃ (t : State) (r : Reply), t.port h = s.port h ∧ exec i s = .next (t.respond h tag .ok r))
      ∨ ∃ (t : State) (k : HeldKind), t.port h = s.port h ∧ exec i s = .next (t.hold h tag k))
    ∧ (∀ (s : State) (h k : HostId) (l : LaneId) (a b c : Nat) (run : RunState) (effect : RunEffect) (on : Bool)
        (g : BitVec 16) (hosts : HostSet) (t : Fin 4) (link : LinkState) (steps : List Machine.Step),
      let one (n : Nat) : List Byte := [BitVec.ofNat 8 n]
      let two (n : Nat) : List Byte := [BitVec.ofNat 8 (n / 256), BitVec.ofNat 8 n]
      let flag : List Byte := [if on then 0x01#8 else 0x00#8]
      Reply.bytes s h .nothing = []
        ∧ Reply.bytes s h (.edited a b c) = one a ++ two b ++ two c
        ∧ Reply.bytes s h (.patched a b) = one a ++ one b
        ∧ Reply.bytes s h (.steps a b steps) = one a ++ one b ++ steps.flatMap encodeStep
        ∧ Reply.bytes s h (.claimed l) = one l ∧ Reply.bytes s h (.released a) = one a
        ∧ Reply.bytes s h (.usage a) = two a ∧ Reply.bytes s h (.adopted a b) = one a ++ two b
        ∧ Reply.bytes s h (.armed a) = one a ∧ Reply.bytes s h (.ran effect run) = [effect.code, run.code]
        ∧ Reply.bytes s h (.stopped run) = [run.code] ∧ Reply.bytes s h (.notNewer g) = two g.toNat
        ∧ (∃ v : Byte, Reply.bytes s h (.subscribers hosts) = [v]
            ∧ (∀ j : HostId, v.getLsbD j.val = look hosts j) ∧ v.toNat < 16)
        ∧ Reply.bytes s h (.mask g on) = two g.toNat ++ flag
        ∧ Reply.bytes s h (.queued a) = one a ∧ Reply.bytes s h (.link link) = [link.code]
        ∧ Reply.bytes s h .leaseTaken = [0x00#8] ∧ Reply.bytes s h .leaseRenewed = [0x01#8]
        ∧ Reply.bytes s h (.leaseHolder k) = one k
        ∧ Reply.bytes s h (.timer t on a) = one t ++ flag ++ two a)
    ∧ [Status.ok, .badFrame, .unknownRequest, .badArgument, .notOwner, .laneState, .noLane, .empty, .noStep, .quota,
        .programFull, .noData, .notNewer, .directFull, .noLease, .leaseHeld, .linkActive, .targetAbsent].map Status.code
      = (List.range 18).map (BitVec.ofNat 8)
    ∧ [RunState.idle, .armed, .bankWait, .ready, .running, .suspended, .retryWait, .atBreak, .stopping,
        .halted].map RunState.code = (List.range 10).map (BitVec.ofNat 8)
    ∧ [RunEffect.started, .continued, .pending, .overrun, .ignored].map RunEffect.code
      = (List.range 5).map (BitVec.ofNat 8)
    ∧ (∀ (m : Bool) (p : ResetPhase),
        [LinkState.off, .idle, .switching, .sending, .awaitReply m, .receiving, .gap, .lineReset p,
          .faulted].map LinkState.code = (List.range 9).map (BitVec.ofNat 8))
    ∧ [StepOutcome.done, .refused, .deferred, .noReply, .checkFail, .frameFault, .stationSilent,
        .sourceEmpty].map StepOutcome.code = (List.range 8).map fun n => BitVec.ofNat 8 (n + 1)

/-- From R41, R78, R98, R147, R153, R170: what a port reset leaves, in a state whose lanes agree with the executor: the port,
its notifications, subscriptions, direct queue and lease are cleared; a direct attempt in flight goes on as a discarded
one; its lanes are ORPHAN and stopped, a lane with an attempt in flight in STOPPING, with their programs, results and
counts kept; other lanes only lose it as a subscriber, and may take the bank its pin gave back; each step that ends with
a frame of it fully sent flips its station's toggle (logs 15, 16); and LANE_ORPHANED goes to every other port not in reset, in
increasing lane number. -/
def Obligations.PortResetClearsTheHost : Prop :=
  ∀ (s : State) (h : HostId), s.LanesOk →
    let stays (l : LaneId) : Prop := (s.lane l).run = .stopping ∨ s.laneInFlight l = true
    let ended : List (Machine.Step × Bool) :=
      (match s.directQueue h, s.exec with
        | [], _ => []
        | r :: _, none => [(r.step, r.fullySent)]
        | r :: _, some e =>
          if e.holder ≠ .direct h then [(r.step, r.fullySent)]
          else if e.inFlight then [] else [(e.step, e.fullySent)])
        ++ allLanes.flatMap fun l =>
          if (s.lane l).owner ≠ some h then []
          else
            (match (s.lane l).held, (s.lane l).program[(s.lane l).position]? with
              | some k, some st => [(st, k.fullySent)]
              | _, _ => [])
              ++ match s.exec with
                | some e =>
                  if e.holder = .lane l ∧ (s.lane l).run = .running ∧ e.inFlight = false then [(e.step, e.fullySent)]
                  else []
                | none => []
    let flips (seg : SegmentId) (n : StationId) : Nat := ended.countP fun p =>
      p.2 && match p.1 with
        | .write a b .. => a == seg && b == n
        | .copy a b .. => a == seg && b == n
        | _ => false
    ∃ t, exec (.portReset h) s = .next t
      ∧ t.port h = ⟨.inReset, .low, (s.port h).frame.ignoredFrom, 0, .clear, none⟩
      ∧ t.mailbox h = .fresh ∧ t.directQueue h = [] ∧ t.lease = (if s.lease = some h then none else s.lease)
      ∧ t.exec = (match s.exec with
        | none => none
        | some e =>
          match e.holder with
          | .direct k => if k ≠ h then some e else if e.inFlight then some { e with holder := .discarded } else none
          | .lane l =>
            if (s.lane l).owner = some h ∧ (s.lane l).run = .running ∧ e.inFlight = false then none else some e
          | .discarded | .probe => some e)
      ∧ (∀ seg n, t.station seg n = { s.station seg n with
          toggle := if flips seg n % 2 = 1 then !(s.station seg n).toggle else (s.station seg n).toggle })
      ∧ (∀ l, look (t.lane l).subscribers h = false
          ∧ (t.lane l).program = (s.lane l).program ∧ (t.lane l).config = (s.lane l).config
          ∧ (t.lane l).front = (s.lane l).front ∧ (t.lane l).generation = (s.lane l).generation
          ∧ (t.lane l).overrun = (s.lane l).overrun)
      ∧ (∀ l, (s.lane l).owner = some h →
          (t.lane l).condition = .orphan
            ∧ (t.lane l).run = (if (s.lane l).run = .stopping ∨ s.laneInFlight l = true then .stopping else .idle)
            ∧ (stays l → (t.lane l).position = (s.lane l).position ∧ (t.lane l).pending = (s.lane l).pending
                ∧ (t.lane l).disarmAtEnd = (s.lane l).disarmAtEnd ∧ (t.lane l).write = (s.lane l).write)
            ∧ (¬stays l → (t.lane l).position = 0 ∧ (t.lane l).pending = false ∧ (t.lane l).disarmAtEnd = false
                ∧ (t.lane l).write = none ∧ (t.lane l).waiting = false ∧ (t.lane l).held = none))
      ∧ (∀ l, (s.lane l).owner ≠ some h →
          t.lane l = { (s.releasePin h).lane l with subscribers := put (s.lane l).subscribers h false })
      ∧ t.usageOf h
          = s.usageOf h - (allLanes.map fun l =>
              if (s.lane l).owner = some h then (s.lane l).program.length else 0).sum
      ∧ (∀ k, k ≠ h → t.port k = s.port k ∧ t.directQueue k = s.directQueue k ∧ t.usageOf k = s.usageOf k
          ∧ t.mailbox k
            = if s.inReset k then s.mailbox k
              else (allLanes.filter fun l => (s.lane l).owner = some h).foldl
                (fun m l => m.record ⟨s.timestamp, .laneOrphaned l⟩) (s.mailbox k))
      ∧ t.freeCount = s.freeCount ∧ t.settings = s.settings ∧ t.timers = s.timers ∧ t.link = s.link
      ∧ t.banks.map (·.map (·.stamp)) = s.banks.map (·.map (·.stamp)) ∧ t.probe = s.probe

/-- From R171, R172: PRST rising makes the port IDLE with nothing held, unless PORn is low; PORn low is the power-on state, the
levels of the input pins and the queue kept (log 24); PORn rising makes each port whose PRST is high IDLE. -/
def Obligations.PowerAndResetReleases : Prop :=
  ∀ (s : State) (h : HostId),
    ((s.port h).state = .inReset →
        exec (.portResetRelease h) s = .next (s.setPort h { s.port h with
          state := if s.porLow then .inReset else .idle
          prst := .high
          sticky := .clear
          pin := none }))
      ∧ (∃ t, exec .powerOn s = .next t
          ∧ t = { State.reset with ports := t.ports, fda := s.fda, pending := s.pending }
          ∧ ∀ k, t.port k = ⟨.inReset, (s.port k).prst, (s.port k).frame.ignoredFrom, 0, .clear, none⟩)
      ∧ (s.porLow = true →
          ∃ t, exec .powerOnRelease s = .next t ∧ t = { s with porLow := false, ports := t.ports }
            ∧ ∀ k, t.port k
              = if (s.port k).prst = .high then { s.port k with state := .idle } else s.port k)

/-! ### Lanes -/

/-- From R26, R27: a claim takes a FREE lane, or the lowest FREE lane, as a fresh lane of the caller; a release in IDLE or
HALTED frees the program and leaves the lane as it was at power-on. -/
def Obligations.LaneClaimAndRelease : Prop :=
  ∀ (s : State) (h : HostId) (tag n : Byte) (l : LaneId), n.toNat = l.val → s.accepts h = true →
    let x := s.lane l
    let k := x.program.length
    let claimed := (s.setLane l { Lane.fresh with condition := .owned h }).respond h tag .ok (.claimed l)
    (x.condition = .free → exec (.laneClaim h tag (.fits (.lane n))) s = .next claimed)
      ∧ (x.condition ≠ .free →
          exec (.laneClaim h tag (.fits (.lane n))) s = .next (s.respond h tag .laneState .nothing))
      ∧ (x.condition = .free → (∀ m : LaneId, m < l → (s.lane m).condition ≠ .free) →
          exec (.laneClaim h tag (.fits .any)) s = .next claimed)
      ∧ ((∀ m : LaneId, (s.lane m).condition ≠ .free) →
          exec (.laneClaim h tag (.fits .any)) s = .next (s.respond h tag .noLane .nothing))
      ∧ (x.owner = some h → x.run = .idle ∨ x.run = .halted →
          exec (.laneRelease h tag (.fits n)) s
            = .next (({ s with
                freeCount := s.freeCount + k
                usage := put s.usage h (s.usageOf h - k) }.setLane l Lane.fresh).respond h tag .ok (.released k)))
      ∧ (x.owner = some h → x.run ≠ .idle → x.run ≠ .halted →
          exec (.laneRelease h tag (.fits n)) s = .next (s.respond h tag .laneState .nothing))

/-- From R24, R29, R42: a handover moves a lane with its usage to a host that is there and has the quota, a target above H3
being BAD_ARGUMENT before the owner is looked at; an adoption takes an ORPHAN lane in IDLE within the quota. A handover to the caller itself is the model's reading (log 11). -/
def Obligations.LaneHandoverAndAdopt : Prop :=
  ∀ (s : State) (h k : HostId) (tag n t v : Byte) (l : LaneId), n.toNat = l.val → t.toNat = k.val →
    s.accepts h = true →
      let x := s.lane l
      let m := x.program.length
      let hand := exec (.laneHandover h tag (.fits ⟨n, t⟩)) s
      let adopt := exec (.laneAdopt h tag (.fits n)) s
      (4 ≤ v.toNat →
          exec (.laneHandover h tag (.fits ⟨n, v⟩)) s = .next (s.respond h tag .badArgument .nothing))
        ∧ (x.owner ≠ some h → hand = .next (s.respond h tag .notOwner .nothing))
        ∧ (x.owner = some h → x.run = .stopping → hand = .next (s.respond h tag .laneState .nothing))
        ∧ (x.owner = some h → x.run ≠ .stopping → k = h → hand = .next (s.respond h tag .ok (.usage (s.usageOf h))))
        ∧ (x.owner = some h → x.run ≠ .stopping → k ≠ h → s.inReset k = true →
            hand = .next (s.respond h tag .targetAbsent .nothing))
        ∧ (x.owner = some h → x.run ≠ .stopping → k ≠ h → s.inReset k = false →
            s.quotaOf k < s.usageOf k + m → hand = .next (s.respond h tag .quota .nothing))
        ∧ (x.owner = some h → x.run ≠ .stopping → k ≠ h → s.inReset k = false →
            s.usageOf k + m ≤ s.quotaOf k →
            hand = .next (({ s with
              usage := put (put s.usage h (s.usageOf h - m)) k (s.usageOf k + m) }.setLane l
                { x with condition := .owned k }).respond h tag .ok (.usage (s.usageOf k + m))))
        ∧ (x.condition ≠ .orphan ∨ x.run ≠ .idle → adopt = .next (s.respond h tag .laneState .nothing))
        ∧ (x.condition = .orphan → x.run = .idle → s.quotaOf h < s.usageOf h + m →
            adopt = .next (s.respond h tag .quota .nothing))
        ∧ (x.condition = .orphan → x.run = .idle → s.usageOf h + m ≤ s.quotaOf h →
            adopt = .next (({ s with usage := put s.usage h (s.usageOf h + m) }.setLane l
              { x with condition := .owned h }).respond h tag .ok (.adopted m (s.usageOf h + m))))

/-- From R31, R173, R174: LANE_CONFIG in IDLE and HALTED sets every field it names to the value given and keeps the others;
where an entry is out of range or an identifier stands twice it is BAD_ARGUMENT before the owner and the run state are
looked at; and its answer spells the seven fields. -/
def Obligations.LaneConfigSetsItsFields : Prop :=
  ∀ (s : State) (h : HostId) (tag n : Byte) (l : LaneId) (entries : List RawConfig), n.toNat = l.val →
    s.accepts h = true →
      let x := s.lane l
      let got := exec (.laneConfig h tag (.fits ⟨n, entries⟩)) s
      let inRange (e : RawConfig) : Prop :=
        match e with
        | .priority v => v.toNat ≤ 3
        | .mode v | .resume v | .onError v => v.toNat ≤ 1
        | .limit v => 1 ≤ v.toNat ∧ v.toNat ≤ 8
        | .interval v => 1 ≤ v.toNat
        | .source k d =>
          (k = 0x00#8 ∧ d = 0x00#8)
            ∨ (k = 0x01#8 ∧ d.toNat / 16 ≤ 3 ∧ d.toNat % 16 = 0)
            ∨ (k = 0x02#8 ∧ d.toNat / 16 ≤ 3 ∧ 1 ≤ d.toNat % 16 ∧ d.toNat % 16 ≤ 3)
            ∨ (k = 0x03#8 ∧ d.toNat / 16 ≤ 7 ∧ d.toNat % 16 = 0)
      let good := (entries.map RawConfig.ident).Nodup ∧ ∀ e ∈ entries, inRange e
      let sets (c : LaneConfig) : Prop :=
        (∀ v, .priority v ∈ entries → c.priority.val = v.toNat)
          ∧ ((∀ v, .priority v ∉ entries) → c.priority = x.config.priority)
          ∧ (.mode 0 ∈ entries → c.mode = .single) ∧ (.mode 1 ∈ entries → c.mode = .continuous)
          ∧ ((∀ v, .mode v ∉ entries) → c.mode = x.config.mode)
          ∧ (.resume 0 ∈ entries → c.resume = .continue) ∧ (.resume 1 ∈ entries → c.resume = .restart)
          ∧ ((∀ v, .resume v ∉ entries) → c.resume = x.config.resume)
          ∧ (.onError 0 ∈ entries → c.onError = .skip) ∧ (.onError 1 ∈ entries → c.onError = .halt)
          ∧ ((∀ v, .onError v ∉ entries) → c.onError = x.config.onError)
          ∧ (∀ v, .limit v ∈ entries → c.limit = v.toNat)
          ∧ ((∀ v, .limit v ∉ entries) → c.limit = x.config.limit)
          ∧ (∀ v, .interval v ∈ entries → c.interval = v.toNat)
          ∧ ((∀ v, .interval v ∉ entries) → c.interval = x.config.interval)
          ∧ (∀ d, .source 0 d ∈ entries → c.source = .soft)
          ∧ (∀ d, ∀ t : Fin 4, .source 1 d ∈ entries → d.toNat / 16 = t.val → c.source = .timer t)
          ∧ (∀ d, ∀ t : Fin 4, .source 2 d ∈ entries → d.toNat / 16 = t.val →
              (d.toNat % 16 = 1 → c.source = .edge t .rising) ∧ (d.toNat % 16 = 2 → c.source = .edge t .falling)
                ∧ (d.toNat % 16 = 3 → c.source = .edge t .both))
          ∧ (∀ d, ∀ y : LaneId, .source 3 d ∈ entries → d.toNat / 16 = y.val → c.source = .chain y)
          ∧ ((∀ k d, .source k d ∉ entries) → c.source = x.config.source)
      (¬good → got = .next (s.respond h tag .badArgument .nothing))
        ∧ (good → x.owner ≠ some h → got = .next (s.respond h tag .notOwner .nothing))
        ∧ (good → x.owner = some h → x.run ≠ .idle → x.run ≠ .halted →
            got = .next (s.respond h tag .laneState .nothing))
        ∧ (good → x.owner = some h → x.run = .idle ∨ x.run = .halted →
            ∃ c, sets c ∧ got = .next ((s.setLane l { x with config := c }).respond h tag .ok (.config c)))
        ∧ (∀ c : LaneConfig, ∃ a b : Byte,
            Reply.bytes s h (.config c)
                = [BitVec.ofNat 8 c.priority.val, a, b, if c.mode = .continuous then 1 else 0,
                  if c.resume = .restart then 1 else 0, if c.onError = .halt then 1 else 0, BitVec.ofNat 8 c.limit,
                  BitVec.ofNat 8 c.interval]
              ∧ (c.source = .soft → a = 0 ∧ b = 0)
              ∧ (∀ t, c.source = .timer t → a = 1 ∧ b.toNat = 16 * t.val)
              ∧ (∀ t, c.source = .edge t .rising → a = 2 ∧ b.toNat = 16 * t.val + 1)
              ∧ (∀ t, c.source = .edge t .falling → a = 2 ∧ b.toNat = 16 * t.val + 2)
              ∧ (∀ t, c.source = .edge t .both → a = 2 ∧ b.toNat = 16 * t.val + 3)
              ∧ ∀ y, c.source = .chain y → a = 3 ∧ b.toNat = 16 * y.val)

/-- From R24, R33, R34: LANE_ARM, from the owner in IDLE and HALTED, arms a lane with a program, at position 0, and is refused
everywhere else; LANE_DISARM acts by the run state. -/
def Obligations.LaneArmAndDisarm : Prop :=
  ∀ (s : State) (h : HostId) (tag n : Byte) (l : LaneId), n.toNat = l.val → s.accepts h = true →
    let x := s.lane l
    let arm := exec (.laneArm h tag (.fits n)) s
    let disarm := exec (.laneDisarm h tag (.fits n)) s
    (x.owner ≠ some h →
        arm = .next (s.respond h tag .notOwner .nothing) ∧ disarm = .next (s.respond h tag .notOwner .nothing))
      ∧ (x.owner = some h →
          (x.run = .idle ∨ x.run = .halted → x.program ≠ [] →
              arm = .next ((s.setLane l { x with
                run := .armed
                position := 0
                pending := false
                disarmAtEnd := false }).respond h tag .ok (.armed x.program.length)))
            ∧ (x.run = .idle ∨ x.run = .halted → x.program = [] → arm = .next (s.respond h tag .empty .nothing))
            ∧ (x.run ≠ .idle → x.run ≠ .halted → arm = .next (s.respond h tag .laneState .nothing))
            ∧ (x.run = .armed → disarm = .next ((s.setLane l { x with run := .idle }).respond h tag .ok .nothing))
            ∧ (x.run = .idle ∨ x.run = .halted → disarm = .next (s.respond h tag .ok .nothing))
            ∧ (x.run = .bankWait ∨ x.run = .ready ∨ x.run = .running ∨ x.run = .suspended ∨ x.run = .retryWait
                ∨ x.run = .atBreak →
                disarm = .next ((s.setLane l { x with disarmAtEnd := true }).respond h tag .ok .nothing))
            ∧ (x.run = .stopping → disarm = .next (s.respond h tag .laneState .nothing)))

/-- From R44 to R47, R50, R121: what a trigger arrival does by the lane's run state. A pass start sets position and error count to 0
and takes the lowest bank that is neither front nor pinned, cleared, or waits; TRIGGER_OVERRUN marks the first overrun.
LANE_RUN delivers one arrival, whatever the lane's trigger source, and answers with the effect and the run state it leaves
(R50); it acts before the unread response of its port gives its pin back, the model's reading (log 8). -/
def Obligations.ArrivalActsByRunState : Prop :=
  ∀ (s : State) (h : HostId) (tag m : Byte) (l : LaneId) (b : BankId),
    let x := s.lane l
    let n := if x.overrun < 255 then x.overrun + 1 else x.overrun
    (x.run = .idle ∨ x.run = .halted ∨ x.run = .stopping → s.arrive l = (s, .ignored))
      ∧ (x.run = .armed → x.front ≠ some b → s.pinned l b = false →
          (∀ c : BankId, c < b → x.front = some c ∨ s.pinned l c = true) →
          s.arrive l
            = ((s.setBank l b { s.bank l b with records := fill 64 ⟨none, 0, []⟩ }).setLane l { x with
                run := .ready
                position := 0
                errorCount := 0
                write := some b
                waiting := false }, .started))
      ∧ (x.run = .armed → (∀ c : BankId, x.front = some c ∨ s.pinned l c = true) →
          s.arrive l
            = (s.setLane l { x with run := .bankWait, position := 0, errorCount := 0, waiting := true }, .started))
      ∧ (x.run = .atBreak → s.arrive l = (s.setLane l { x with run := .ready }, .continued))
      ∧ (x.run = .bankWait ∨ x.run = .ready ∨ x.run = .running ∨ x.run = .suspended ∨ x.run = .retryWait →
          (x.pending = false → s.arrive l = (s.setLane l { x with pending := true }, .pending))
            ∧ (x.pending = true → x.overrun ≠ 0 →
                s.arrive l = (s.setLane l { x with overrun := n }, .overrun))
            ∧ (x.pending = true → x.overrun = 0 → ∀ k : HostId, x.owner = some k →
                s.arrive l
                  = ((s.setLane l { x with overrun := 1 }).queueEvent k (.triggerOverrun l), .overrun)))
      ∧ (m.toNat = l.val → s.accepts h = true →
          let got := exec (.laneRun h tag (.fits m)) s
          (x.owner = some h → x.run ≠ .stopping →
              got = .next ((s.arrive l).1.respond h tag .ok (.ran (s.arrive l).2 ((s.arrive l).1.lane l).run)))
            ∧ (x.owner = some h → x.run = .stopping → got = .next (s.respond h tag .laneState .nothing))
            ∧ (x.owner ≠ some h → got = .next (s.respond h tag .notOwner .nothing)))

/-- From R23, R35, R36, R98: LANE_STOP off the line acts at once: a pass is abandoned with PASS_ABANDONED, a step held through a
retry wait settling its toggle. On the line the lane is STOPPING and the response is held; with no attempt begun the lane
leaves STOPPING in the same act (logs 16, 30). -/
def Obligations.LaneStop : Prop :=
  ∀ (s : State) (h : HostId) (tag n : Byte) (l : LaneId) (e : Execution), n.toNat = l.val → s.accepts h = true →
    (s.lane l).owner = some h →
      let x := s.lane l
      let got := exec (.laneStop h tag (.fits n)) s
      let stopped : Lane := { x with
        run := .idle
        position := 0
        write := none
        waiting := false
        held := none
        retryLeft := 0
        pending := false
        disarmAtEnd := false }
      (x.run = .idle → got = .next (s.respond h tag .ok (.stopped .idle)))
        ∧ (x.run = .armed →
            got = .next ((s.setLane l { x with run := .idle }).respond h tag .ok (.stopped .armed)))
        ∧ (x.run = .halted →
            got = .next ((s.setLane l { x with run := .idle, position := 0 }).respond h tag .ok (.stopped .halted)))
        ∧ (x.run = .bankWait ∨ x.run = .ready ∨ x.run = .suspended ∨ x.run = .retryWait ∨ x.run = .atBreak →
            x.held = none →
            got = .next (((s.setLane l stopped).queueEvent h (.passAbandoned l x.position)).respond h tag .ok
              (.stopped x.run)))
        ∧ (∀ k st, x.run = .ready ∨ x.run = .retryWait → x.held = some k → x.program[x.position]? = some st →
            got = .next ((((s.settleToggle st k.fullySent).setLane l stopped).queueEvent h
              (.passAbandoned l x.position)).respond h tag .ok (.stopped x.run)))
        ∧ (x.run = .running → s.exec = some e → e.holder = .lane l → e.inFlight = true →
            got = .next ((s.setLane l { x with run := .stopping }).hold h tag (.laneStop l)))
        ∧ (x.run = .running → s.exec = some e → e.holder = .lane l → e.inFlight = false → x.held = none →
            (∀ k : HostId, (s.port k).waitsFor ≠ some (.laneStop l)) →
            got = .next (({ s.settleToggle e.step e.fullySent with exec := none }.setLane l stopped |>.queueEvent h
              (.passAbandoned l x.position)).respond h tag .ok (.stopped .running)))
        ∧ (x.run = .stopping → got = .next (s.respond h tag .laneState .nothing))

/-- From R39, R40, R173: LANE_QUERY returns the lane's fields as they stand, from any host, in the order R39 lists them; the
owner's query that clears sets the overrun count to 0 in the same act. -/
def Obligations.LaneQuery : Prop :=
  ∀ (s : State) (h : HostId) (tag n : Byte) (l : LaneId), n.toNat = l.val → s.accepts h = true →
    let x := s.lane l
    let fields : Reply := .laneInfo ⟨x.condition, x.run, x.config, x.program.length, x.position, x.pending, x.overrun,
      x.disarmAtEnd, x.errorCount, x.generation, x.front, x.write, x.subscribers⟩
    let held : List Byte := match x.condition with
      | .free => [0x00#8, 0xFF#8]
      | .owned k => [0x01#8, BitVec.ofNat 8 k.val]
      | .orphan => [0x02#8, 0xFF#8]
    let bank (b : Option BankId) : Byte := match b with
      | some b => BitVec.ofNat 8 b.val
      | none => 0xFF#8
    exec (.laneQuery h tag (.fits n)) s = .next (s.respond h tag .ok fields)
      ∧ (x.owner = some h →
          exec (.laneQueryClear h tag (.fits n)) s
            = .next ((s.setLane l { x with overrun := 0 }).respond h tag .ok fields))
      ∧ (x.owner ≠ some h →
          exec (.laneQueryClear h tag (.fits n)) s = .next (s.respond h tag .notOwner .nothing))
      ∧ Reply.bytes s h fields
        = held ++ [x.run.code] ++ Reply.bytes s h (.config x.config)
          ++ [BitVec.ofNat 8 x.program.length, BitVec.ofNat 8 x.position, if x.pending then 1 else 0,
            BitVec.ofNat 8 x.overrun, if x.disarmAtEnd then 1 else 0, BitVec.ofNat 8 x.errorCount,
            BitVec.ofNat 8 (x.generation.toNat / 256), BitVec.ofNat 8 x.generation.toNat, bank x.front, bank x.write]
          ++ Reply.bytes s h (.subscribers x.subscribers)

/-! ### Programs -/

/-- From R1, R174: a step is valid exactly where each field lies in the range of its kind, and then keeps every field. -/
def Obligations.StepValidity : Prop :=
  ∀ (seg st idx count lane record into kind tag : Byte) (data rest : List Byte),
    let place := seg.toNat ≤ 3 ∧ st.toNat ≤ 30
    let noted := into.toNat ≤ 63 ∨ into = 0xFF#8
    let sized := 1 ≤ data.length ∧ data.length ≤ 8
    ((validStep (.read seg st idx count into)).isSome
        = decide (place ∧ 1 ≤ count.toNat ∧ count.toNat ≤ 8 ∧ into.toNat ≤ 63))
      ∧ ((validStep (.write seg st idx into data)).isSome = decide (place ∧ noted ∧ sized))
      ∧ ((validStep (.broadcast seg idx into data)).isSome = decide (seg.toNat ≤ 3 ∧ noted ∧ sized))
      ∧ ((validStep (.copy seg st idx lane record into)).isSome
        = decide (place ∧ lane.toNat ≤ 7 ∧ record.toNat ≤ 63 ∧ noted))
      ∧ validStep (.brk tag) = some (.brk tag)
      ∧ validStep (.unknown kind rest) = none
      ∧ (∀ x ∈ validStep (.read seg st idx count into), encodeStep x = [0x01#8, seg, st, idx, count, into])
      ∧ (∀ x ∈ validStep (.write seg st idx into data),
          encodeStep x = [0x02#8, seg, st, idx, into, byteOf data.length] ++ data)
      ∧ (∀ x ∈ validStep (.broadcast seg idx into data),
          encodeStep x = [0x03#8, seg, idx, into, byteOf data.length] ++ data)
      ∧ ∀ x ∈ validStep (.copy seg st idx lane record into),
          encodeStep x = [0x04#8, seg, st, idx, lane, record, into]

/-- From R6, R8, R9, R16: PROG_APPEND of valid steps on the caller's lane in IDLE, ARMED or HALTED: the three limits in their
order, and within them the steps placed at the end with the usage and the free count. A wrong number of steps is judged before
the run state, the model's reading (log 9). -/
def Obligations.ProgAppend : Prop :=
  ∀ (s : State) (h : HostId) (tag n : Byte) (l : LaneId) (raw : List RawStep) (steps : List Machine.Step),
    n.toNat = l.val → s.accepts h = true → (s.lane l).owner = some h →
      let x := s.lane l
      let k := raw.length
      let got := exec (.progAppend h tag (.fits ⟨n, raw⟩)) s
      let open_ := x.run = .idle ∨ x.run = .armed ∨ x.run = .halted
      (k = 0 ∨ 4 < k → got = .next (s.respond h tag .badArgument .nothing))
        ∧ (1 ≤ k → k ≤ 4 → ¬open_ → got = .next (s.respond h tag .laneState .nothing))
        ∧ (1 ≤ k → k ≤ 4 → open_ → (∃ r ∈ raw, validStep r = none) →
            got = .next (s.respond h tag .badArgument .nothing))
        ∧ (1 ≤ k → k ≤ 4 → open_ → raw.map validStep = steps.map some →
            (64 < x.program.length + k → got = .next (s.respond h tag .programFull .nothing))
              ∧ (x.program.length + k ≤ 64 → s.quotaOf h < s.usageOf h + k →
                  got = .next (s.respond h tag .quota .nothing))
              ∧ (x.program.length + k ≤ 64 → s.usageOf h + k ≤ s.quotaOf h → s.freeCount < k →
                  got = .next (s.respond h tag .noStep .nothing))
              ∧ (x.program.length + k ≤ 64 → s.usageOf h + k ≤ s.quotaOf h → k ≤ s.freeCount →
                  got = .next (({ s with
                    freeCount := s.freeCount - k
                    usage := put s.usage h (s.usageOf h + k) }.setLane l
                      { x with program := x.program ++ steps }).respond h tag .ok
                        (.edited (x.program.length + k) (s.usageOf h + k) (s.freeCount - k)))))

/-- From R6, R8, R10, R11, R16: PROG_INSERT places one step at its position and PROG_REPLACE overwrites one; the run state is
checked before the step and the position, and those before the pool. -/
def Obligations.ProgInsertAndReplace : Prop :=
  ∀ (s : State) (h : HostId) (tag n p : Byte) (l : LaneId) (raw : RawStep) (st : Machine.Step),
    n.toNat = l.val → s.accepts h = true → (s.lane l).owner = some h →
      let x := s.lane l
      let q := p.toNat
      let open_ := x.run = .idle ∨ x.run = .armed ∨ x.run = .halted
      let insert := exec (.progInsert h tag (.fits ⟨n, p, raw⟩)) s
      let replace := exec (.progReplace h tag (.fits ⟨n, p, raw⟩)) s
      (¬open_ → insert = .next (s.respond h tag .laneState .nothing)
          ∧ replace = .next (s.respond h tag .laneState .nothing))
        ∧ (open_ → validStep raw = none ∨ x.program.length < q →
            insert = .next (s.respond h tag .badArgument .nothing))
        ∧ (open_ → validStep raw = none ∨ x.program.length ≤ q →
            replace = .next (s.respond h tag .badArgument .nothing))
        ∧ (open_ → validStep raw = some st → q ≤ x.program.length → 64 < x.program.length + 1 →
            insert = .next (s.respond h tag .programFull .nothing))
        ∧ (open_ → validStep raw = some st → q ≤ x.program.length → x.program.length + 1 ≤ 64 →
            s.quotaOf h < s.usageOf h + 1 → insert = .next (s.respond h tag .quota .nothing))
        ∧ (open_ → validStep raw = some st → q ≤ x.program.length → x.program.length + 1 ≤ 64 →
            s.usageOf h + 1 ≤ s.quotaOf h → s.freeCount = 0 →
            insert = .next (s.respond h tag .noStep .nothing))
        ∧ (open_ → validStep raw = some st → q ≤ x.program.length → x.program.length + 1 ≤ 64 →
            s.usageOf h + 1 ≤ s.quotaOf h → 1 ≤ s.freeCount →
            insert = .next (({ s with
              freeCount := s.freeCount - 1
              usage := put s.usage h (s.usageOf h + 1) }.setLane l
                { x with program := x.program.insertIdx q st }).respond h tag .ok
                  (.edited (x.program.length + 1) (s.usageOf h + 1) (s.freeCount - 1))))
        ∧ (open_ → validStep raw = some st → q < x.program.length →
            replace = .next ((s.setLane l { x with program := x.program.set q st }).respond h tag .ok
              (.edited x.program.length (s.usageOf h) s.freeCount)))

/-- From R8, R12 to R14, R16: PROG_REMOVE and PROG_CLEAR free their steps, and never empty an ARMED lane. -/
def Obligations.ProgRemoveAndClear : Prop :=
  ∀ (s : State) (h : HostId) (tag n p : Byte) (l : LaneId), n.toNat = l.val → s.accepts h = true →
    (s.lane l).owner = some h →
      let x := s.lane l
      let q := p.toNat
      let k := x.program.length
      let open_ := x.run = .idle ∨ x.run = .armed ∨ x.run = .halted
      let remove := exec (.progRemove h tag (.fits ⟨n, p⟩)) s
      let clear := exec (.progClear h tag (.fits n)) s
      (¬open_ → remove = .next (s.respond h tag .laneState .nothing)
          ∧ clear = .next (s.respond h tag .laneState .nothing))
        ∧ (open_ → k ≤ q → remove = .next (s.respond h tag .badArgument .nothing))
        ∧ (x.run = .armed → q < k → k = 1 → remove = .next (s.respond h tag .empty .nothing))
        ∧ (x.run = .armed → k ≠ 0 → clear = .next (s.respond h tag .empty .nothing))
        ∧ (open_ → q < k → x.run ≠ .armed ∨ k ≠ 1 →
            remove = .next (({ s with
              freeCount := s.freeCount + 1
              usage := put s.usage h (s.usageOf h - 1) }.setLane l
                { x with program := x.program.eraseIdx q }).respond h tag .ok
                  (.edited (k - 1) (s.usageOf h - 1) (s.freeCount + 1))))
        ∧ (open_ → x.run ≠ .armed ∨ k = 0 →
            clear = .next (({ s with
              freeCount := s.freeCount + k
              usage := put s.usage h (s.usageOf h - k) }.setLane l { x with program := [] }).respond h tag .ok
                (.edited 0 (s.usageOf h - k) (s.freeCount + k))))

/-- From R16, R17, R19: PROG_PATCH replaces the data list of a WRITE or BROADCAST in every run state; PROG_READ returns up to
four steps to any host and changes nothing. -/
def Obligations.ProgPatchAndRead : Prop :=
  ∀ (s : State) (h : HostId) (tag n p c : Byte) (l : LaneId) (data old : List Byte) (seg : SegmentId)
    (st : StationId) (idx : Byte) (into : Option RecordId),
    n.toNat = l.val → s.accepts h = true →
      let x := s.lane l
      let q := p.toNat
      let patch := exec (.progPatch h tag (.fits ⟨n, p, data⟩)) s
      let read := exec (.progRead h tag (.fits ⟨n, p, c⟩)) s
      (x.owner = some h → x.program[q]? = some (.write seg st idx old into) → 1 ≤ data.length → data.length ≤ 8 →
          patch = .next ((s.setLane l { x with program := x.program.set q (.write seg st idx data into) }).respond h tag
            .ok (.patched q data.length)))
        ∧ (x.owner = some h → x.program[q]? = some (.broadcast seg idx old into) → 1 ≤ data.length →
            data.length ≤ 8 →
            patch = .next ((s.setLane l
              { x with program := x.program.set q (.broadcast seg idx data into) }).respond h tag .ok
                (.patched q data.length)))
        ∧ (x.owner = some h → (∀ y ∈ x.program[q]?, y.patchable = false) ∨ data.length = 0 ∨ 8 < data.length →
            patch = .next (s.respond h tag .badArgument .nothing))
        ∧ (c.toNat = 0 ∨ 4 < c.toNat ∨ 63 < q → read = .next (s.respond h tag .badArgument .nothing))
        ∧ (1 ≤ c.toNat → c.toNat ≤ 4 → q ≤ 63 → x.condition = .free →
            read = .next (s.respond h tag .laneState .nothing))
        ∧ (1 ≤ c.toNat → c.toNat ≤ 4 → q ≤ 63 → x.condition ≠ .free →
            read = .next (s.respond h tag .ok (.steps x.program.length q ((x.program.drop q).take c.toNat))))

/-! ### Results, events and direct requests -/

/-- From R127 to R129, R165, R173: the checks of RESULT_READ in their order; an OK answer names the front bank, which the port's
response then pins, and changes nothing in the result store; its payload is the bank's header and the records asked for,
drawn from the bank itself. -/
def Obligations.ResultRead : Prop :=
  ∀ (s : State) (h : HostId) (tag n f c : Byte) (g : Option (BitVec 16)) (l : LaneId) (b : BankId),
    n.toNat = l.val → s.accepts h = true →
      let x := s.lane l
      let got := exec (.resultRead h tag (.fits ⟨n, f, c, g⟩)) s
      let fits := f.toNat ≤ 63 ∧ 1 ≤ c.toNat ∧ c.toNat ≤ 64 ∧ f.toNat + c.toNat ≤ 64
      let stamp := (s.bank l b).stamp
      let spelled (r : Record) : List Byte :=
        [match r.outcome with
          | some o => o.code
          | none => 0x00#8, BitVec.ofNat 8 (16 * r.attempts + r.data.length)] ++ r.data
      (¬fits → got = .next (s.respond h tag .badArgument .nothing))
        ∧ (fits → x.condition = .free → got = .next (s.respond h tag .laneState .nothing))
        ∧ (fits → x.condition ≠ .free → x.front = none → got = .next (s.respond h tag .noData .nothing))
        ∧ (fits → x.condition ≠ .free → x.front = some b → g = some x.generation →
            got = .next (s.respond h tag .notNewer (.notNewer x.generation)))
        ∧ (fits → x.condition ≠ .free → x.front = some b → g ≠ some x.generation →
            got = .next (s.respond h tag .ok (.results l b f.toNat c.toNat)))
        ∧ (fits → x.condition ≠ .free → x.front = some b → g ≠ some x.generation → (s.port h).isReady = false →
            ∃ t, got = .next t ∧ (t.port h).pin = some (l, b) ∧ t.pinned l b = true)
        ∧ Reply.bytes s h (.results l b f.toNat c.toNat)
          = [n, BitVec.ofNat 8 b.val] ++ bytes16 stamp.generation ++ bytes32 stamp.timestamp
            ++ [BitVec.ofNat 8 stamp.errors, BitVec.ofNat 8 stamp.written, f, c]
            ++ (((s.bank l b).records.toList.drop f.toNat).take c.toNat).flatMap spelled

/-- From R133, R134: the caller joins and leaves a lane's subscriber set. -/
def Obligations.ResultWatchAndUnwatch : Prop :=
  ∀ (s : State) (h : HostId) (tag n : Byte) (l : LaneId), n.toNat = l.val → s.accepts h = true →
    let x := s.lane l
    let joined := put x.subscribers h true
    let left := put x.subscribers h false
    (x.condition = .free →
        exec (.resultWatch h tag (.fits n)) s = .next (s.respond h tag .laneState .nothing)
          ∧ exec (.resultUnwatch h tag (.fits n)) s = .next (s.respond h tag .laneState .nothing))
      ∧ (x.condition ≠ .free →
          exec (.resultWatch h tag (.fits n)) s
              = .next ((s.setLane l { x with subscribers := joined }).respond h tag .ok (.subscribers joined))
            ∧ exec (.resultUnwatch h tag (.fits n)) s
              = .next ((s.setLane l { x with subscribers := left }).respond h tag .ok (.subscribers left)))

/-- From R137, R142, R146, R173, R174: EVENT_FETCH fixes its counts and removes nothing, and its records are those at the head
of the queue, each spelled by its kind; EVENT_MASK sets the mask and the enable together, and a mask with bit 0, 14 or 15
set is refused. An enable byte above 01h is refused too, the model's choice (log 31). -/
def Obligations.EventFetchAndMask : Prop :=
  ∀ (s : State) (h : HostId) (tag n e : Byte) (mask : BitVec 16), s.accepts h = true →
    let m := s.mailbox h
    let k := min n.toNat m.queue.length
    let outside := mask.getLsbD 0 = true ∨ mask.getLsbD 14 = true ∨ mask.getLsbD 15 = true
    let one (n : Nat) : Byte := BitVec.ofNat 8 n
    let fields (b : EventBody) : List Byte :=
      match b with
      | .passDone l g n => [0x01#8] ++ bytes32 s.timestamp ++ [one l.val] ++ bytes16 g ++ [one n]
      | .passAbandoned l p => [0x02#8] ++ bytes32 s.timestamp ++ [one l.val, one p]
      | .stepError l p o n => [0x03#8] ++ bytes32 s.timestamp ++ [one l.val, one p, o.code, one n]
      | .laneHalted l p o => [0x04#8] ++ bytes32 s.timestamp ++ [one l.val, one p, o.code]
      | .triggerOverrun l => [0x05#8] ++ bytes32 s.timestamp ++ [one l.val]
      | .breakReached l p t => [0x06#8] ++ bytes32 s.timestamp ++ [one l.val, one p, t]
      | .laneOrphaned l => [0x07#8] ++ bytes32 s.timestamp ++ [one l.val]
      | .directDone t o n none => [0x08#8] ++ bytes32 s.timestamp ++ [o.code, t, one n]
      | .directDone t o n (some d) => [0x08#8] ++ bytes32 s.timestamp ++ [o.code, t, one n, one d.length] ++ d
      | .stationSilent seg st => [0x09#8] ++ bytes32 s.timestamp ++ [one seg.val, one st.val]
      | .stationBack seg st => [0x0A#8] ++ bytes32 s.timestamp ++ [one seg.val, one st.val]
      | .linkFault => [0x0B#8] ++ bytes32 s.timestamp
      | .linkRecovered => [0x0C#8] ++ bytes32 s.timestamp
      | .leaseExpired => [0x0D#8] ++ bytes32 s.timestamp
    (n.toNat = 0 ∨ 4 < n.toNat →
        exec (.eventFetch h tag (.fits n)) s = .next (s.respond h tag .badArgument .nothing))
      ∧ (1 ≤ n.toNat → n.toNat ≤ 4 →
          exec (.eventFetch h tag (.fits n)) s
            = .next (s.respond h tag .ok (.events k m.lost (m.queue.length - k))))
      ∧ (outside ∨ 1 < e.toNat →
          exec (.eventMask h tag (.fits ⟨mask, e⟩)) s = .next (s.respond h tag .badArgument .nothing))
      ∧ (¬outside → e.toNat ≤ 1 →
          exec (.eventMask h tag (.fits ⟨mask, e⟩)) s
            = .next ((s.setMailbox h { m with mask := mask, enable := decide (e.toNat = 1) }).respond h tag .ok
              (.mask mask (decide (e.toNat = 1)))))
      ∧ Reply.bytes s h (.events k m.lost (m.queue.length - k))
        = [one k, one m.lost, one (m.queue.length - k)] ++ (m.queue.take k).flatMap Event.bytes
      ∧ ∀ b : EventBody, Event.bytes ⟨s.timestamp, b⟩ = fields b

/-- From R138, R139, R141, R149: a record joins the tail of a queue with room, unless its kind is masked; a full queue drops it
and counts it; a port in reset is left out; a lane's event goes to its owner and PASS_DONE to its subscribers; and the
first record of a port with its enable on drives NIRQ low. -/
def Obligations.EventsJoinTheQueues : Prop :=
  ∀ (s : State) (h k : HostId) (l : LaneId) (b : EventBody),
    let m := s.mailbox k
    let e : Event := ⟨s.timestamp, b⟩
    let sent : Mailbox :=
      if m.mask.getLsbD b.kind = false then m
      else if m.queue.length < 16 then { m with queue := m.queue ++ [e] }
      else { m with lost := if m.lost < 255 then m.lost + 1 else m.lost }
    (s.queueEvent h b).mailbox k = (if h = k ∧ (s.port k).state ≠ .inReset then sent else m)
      ∧ (s.queueAll b).mailbox k = (if (s.port k).state ≠ .inReset then sent else m)
      ∧ (s.queueOwner l b).mailbox k
        = (if (s.lane l).owner = some k ∧ (s.port k).state ≠ .inReset then sent else m)
      ∧ (s.queueSubscribers l b).mailbox k
        = (if look (s.lane l).subscribers k = true ∧ (s.port k).state ≠ .inReset then sent else m)
      ∧ ((s.port k).state ≠ .inReset → m.enable = true → m.mask.getLsbD b.kind = true →
          (s.queueEvent k b).nirqLow k = true)
      ∧ ((s.port k).state = .inReset ∨ m.enable = false ∨ m.queue = [] → s.nirqLow k = false)

/-- From R74, R75: a direct READ, WRITE or BROADCAST without into joins the tail of the caller's queue of four; COPY, BREAK, an
into, a limit outside 1 to 8 or an interval of 0 is refused. -/
def Obligations.DirectSubmitJoinsTheQueue : Prop :=
  ∀ (s : State) (h : HostId) (tag limit interval hostTag : Byte) (raw : RawStep) (st : Machine.Step),
    s.accepts h = true →
      let q := s.directQueue h
      let got := exec (.directSubmit h tag (.fits ⟨limit, interval, hostTag, raw⟩)) s
      let timed := 1 ≤ limit.toNat ∧ limit.toNat ≤ 8 ∧ 1 ≤ interval.toNat
      (¬timed → got = .next (s.respond h tag .badArgument .nothing))
        ∧ (RawStep.checked raw = none → got = .next (s.respond h tag .badArgument .nothing))
        ∧ (RawStep.checked raw = some st →
            st.into ≠ none ∨ st.segment = none ∨ (st.operation = 1 ∧ st.patchable = false) →
            got = .next (s.respond h tag .badArgument .nothing))
        ∧ (timed → RawStep.checked raw = some st → st.into = none →
            st.asks ≠ 0 ∨ st.patchable = true → 4 ≤ q.length →
            got = .next (s.respond h tag .directFull .nothing))
        ∧ (timed → RawStep.checked raw = some st → st.into = none → st.asks ≠ 0 ∨ st.patchable = true →
            q.length < 4 →
            got = .next ((s.setDirectQueue h
              (q ++ [⟨st, limit.toNat, interval.toNat, hostTag, 0, false, none⟩])).respond h tag .ok
                (.queued (q.length + 1))))

/-! ### Lease, settings, timers and link requests -/

/-- From R151, R152: LEASE_TAKE by the state of the lease, LEASE_RENEW and LEASE_DROP from the holder alone, and a payload
refused. -/
def Obligations.LeaseChangesHands : Prop :=
  ∀ (s : State) (h k : HostId) (tag : Byte),
    (s.accepts h = true → s.lease = none →
        exec (.leaseTake h tag (.fits ())) s
          = .next ({ s with lease := some h, leaseLeft := 2000000 }.respond h tag .ok .leaseTaken))
      ∧ (s.accepts h = true → s.lease = some h →
          exec (.leaseTake h tag (.fits ())) s
              = .next ({ s with leaseLeft := 2000000 }.respond h tag .ok .leaseRenewed)
            ∧ exec (.leaseRenew h tag (.fits ())) s
              = .next ({ s with leaseLeft := 2000000 }.respond h tag .ok .nothing)
            ∧ exec (.leaseDrop h tag (.fits ())) s
              = .next ({ s with lease := none, leaseLeft := 0 }.respond h tag .ok .nothing))
      ∧ (s.accepts h = true → s.lease = some k → k ≠ h →
          exec (.leaseTake h tag (.fits ())) s = .next (s.respond h tag .leaseHeld (.leaseHolder k)))
      ∧ (s.accepts h = true → s.lease ≠ some h →
          exec (.leaseRenew h tag (.fits ())) s = .next (s.respond h tag .noLease .nothing)
            ∧ exec (.leaseDrop h tag (.fits ())) s = .next (s.respond h tag .noLease .nothing))
      ∧ (s.accepts h = true →
          exec (.leaseTake h tag .misfit) s = .next (s.respond h tag .badArgument .nothing)
            ∧ exec (.leaseRenew h tag .misfit) s = .next (s.respond h tag .badArgument .nothing)
            ∧ exec (.leaseDrop h tag .misfit) s = .next (s.respond h tag .badArgument .nothing))

/-- From R80, R154 to R156, R173, R174: SETTINGS_WRITE checks arguments, lease, link fields and quotas in that order, and then
sets every field it names to the value given and keeps the others, a named probe interval restarting a counting probe
timer; its answer spells the whole record. -/
def Obligations.SettingsWriteSetsItsFields : Prop :=
  ∀ (s : State) (h : HostId) (tag : Byte) (entries : List RawSetting), s.accepts h = true →
    let got := exec (.settingsWrite h tag (.fits entries)) s
    let old := s.settings
    let inRange (e : RawSetting) : Prop :=
      match e with
      | .lineRate v => v.toNat ≤ 3
      | .replyTimeout v => 2 ≤ v.toNat ∧ v.toNat ≤ 50
      | .segmentGuard v => 1 ≤ v.toNat ∧ v.toNat ≤ 100
      | .silentThreshold v => 1 ≤ v.toNat ∧ v.toNat ≤ 15
      | .probeInterval v => 1 ≤ v.toNat
      | .quota _ w => w.toNat ≤ 256
    let good := (entries.map RawSetting.ident).Nodup ∧ ∀ e ∈ entries, inRange e
    let linkKept := ∀ e ∈ entries,
      match e with
      | .lineRate v => v = old.lineRate.code
      | .replyTimeout v => v.toNat = old.replyTimeout
      | .segmentGuard v => v.toNat = old.segmentGuard
      | .silentThreshold v => v.toNat = old.silentThreshold
      | .probeInterval _ | .quota .. => True
    let below := ∃ k w, .quota k w ∈ entries ∧ w.toNat < s.usageOf k
    let sets (r : Settings) : Prop :=
      (.lineRate 0 ∈ entries → r.lineRate = .k125) ∧ (.lineRate 1 ∈ entries → r.lineRate = .k250)
        ∧ (.lineRate 2 ∈ entries → r.lineRate = .k500) ∧ (.lineRate 3 ∈ entries → r.lineRate = .k1000)
        ∧ ((∀ v, .lineRate v ∉ entries) → r.lineRate = old.lineRate)
        ∧ (∀ v, .replyTimeout v ∈ entries → r.replyTimeout = v.toNat)
        ∧ ((∀ v, .replyTimeout v ∉ entries) → r.replyTimeout = old.replyTimeout)
        ∧ (∀ v, .segmentGuard v ∈ entries → r.segmentGuard = v.toNat)
        ∧ ((∀ v, .segmentGuard v ∉ entries) → r.segmentGuard = old.segmentGuard)
        ∧ (∀ v, .silentThreshold v ∈ entries → r.silentThreshold = v.toNat)
        ∧ ((∀ v, .silentThreshold v ∉ entries) → r.silentThreshold = old.silentThreshold)
        ∧ (∀ v, .probeInterval v ∈ entries → r.probeInterval = v.toNat)
        ∧ ((∀ v, .probeInterval v ∉ entries) → r.probeInterval = old.probeInterval)
        ∧ (∀ k w, .quota k w ∈ entries → look r.quota k = w.toNat)
        ∧ ∀ k, (∀ w, .quota k w ∉ entries) → look r.quota k = look old.quota k
    let restarts := (∃ v, .probeInterval v ∈ entries) ∧ s.probe.left ≠ none
    (¬good → got = .next (s.respond h tag .badArgument .nothing))
      ∧ (good → s.lease ≠ some h → got = .next (s.respond h tag .noLease .nothing))
      ∧ (good → s.lease = some h → ¬linkKept → s.link ≠ .off → got = .next (s.respond h tag .linkActive .nothing))
      ∧ (good → s.lease = some h → linkKept ∨ s.link = .off → below →
          got = .next (s.respond h tag .quota .nothing))
      ∧ (good → s.lease = some h → linkKept ∨ s.link = .off → ¬below →
          ∃ r, sets r
            ∧ (¬restarts → got = .next ({ s with settings := r }.respond h tag .ok (.settings r)))
            ∧ (restarts →
                got = .next ({ s with
                  settings := r
                  probe := { s.probe with left := some (r.probeInterval * 10000) } }.respond h tag .ok (.settings r))))
      ∧ (∀ r : Settings, Reply.bytes s h (.settings r)
          = [r.lineRate.code, BitVec.ofNat 8 r.replyTimeout, BitVec.ofNat 8 r.segmentGuard,
              BitVec.ofNat 8 r.silentThreshold, BitVec.ofNat 8 r.probeInterval]
            ++ [0, 1, 2, 3].flatMap (fun k : HostId =>
              [BitVec.ofNat 8 (look r.quota k / 256), BitVec.ofNat 8 (look r.quota k)]))
      ∧ [LineRate.k125, .k250, .k500, .k1000].map LineRate.code = [0x00#8, 0x01#8, 0x02#8, 0x03#8]

/-- From R157, R159: SETTINGS_READ and DEVICE_QUERY report from any host and change nothing but its port. -/
def Obligations.SettingsReadAndDeviceQuery : Prop :=
  ∀ (s : State) (h : HostId) (tag : Byte), s.accepts h = true →
    exec (.settingsRead h tag (.fits ())) s = .next (s.respond h tag .ok (.settingsUsage s.settings s.usage))
      ∧ exec (.deviceQuery h tag (.fits ())) s
        = .next (s.respond h tag .ok (.device ⟨s.freeCount, s.timestamp, s.link, s.lease⟩))
      ∧ exec (.settingsRead h tag .misfit) s = .next (s.respond h tag .badArgument .nothing)
      ∧ exec (.deviceQuery h tag .misfit) s = .next (s.respond h tag .badArgument .nothing)
      ∧ Reply.bytes s h (.settingsUsage s.settings s.usage)
        = Reply.bytes s h (.settings s.settings)
          ++ [0, 1, 2, 3].flatMap (fun k : HostId =>
            [BitVec.ofNat 8 (s.usageOf k / 256), BitVec.ofNat 8 (s.usageOf k)])
      ∧ Reply.bytes s h (.device ⟨s.freeCount, s.timestamp, s.link, s.lease⟩)
        = [0x0A#8, 0x48#8, 0x01#8] ++ bytes16 (BitVec.ofNat 16 s.freeCount) ++ bytes32 s.timestamp ++ [s.link.code]
          ++ (match s.lease with
            | some k => [0x01#8, byteOf k]
            | none => [0x00#8, 0xFF#8])

/-- From R54, R174: TIMER_SET by the timer's run state, the period given and the command, for the lease holder. -/
def Obligations.TimerSetByTheTable : Prop :=
  ∀ (s : State) (h : HostId) (tag n c : Byte) (t : Fin 4) (period : Option (BitVec 16)), s.accepts h = true →
    let x := s.timer t
    let p := (period.map BitVec.toNat).getD x.period
    let got := exec (.timerSet h tag (.fits ⟨n, c, period⟩)) s
    let left (y : IntervalTimer) := Host.Outcome.next (φ := Fault) (ρ := Refusal)
      ((s.setTimer t y).respond h tag .ok (.timer t y.running y.period))
    (3 < n.toNat ∨ 2 < c.toNat ∨ period = some 0 → got = .next (s.respond h tag .badArgument .nothing))
      ∧ (n.toNat = t.val → c.toNat ≤ 2 → period ≠ some 0 → s.lease ≠ some h →
          got = .next (s.respond h tag .noLease .nothing))
      ∧ (n.toNat = t.val → period ≠ some 0 → s.lease = some h →
          (x.running = false → c = 0x00#8 → got = left ⟨p, false, 0⟩)
            ∧ (x.running = false → c = 0x01#8 → got = left ⟨p, true, p * 100⟩)
            ∧ (c = 0x02#8 → got = left ⟨p, false, 0⟩)
            ∧ (x.running = true → c.toNat ≤ 1 → period = none → got = left x)
            ∧ (x.running = true → c.toNat ≤ 1 → period ≠ none → got = left ⟨p, true, p * 100⟩))

/-- From R65, R89, R90, R93 to R95, R109: LINK_ENABLE acts in OFF alone, LINK_RESET in every other state; FDA high starts the line
reset on segment 0, with the grant withdrawn: a lane is SUSPENDED, a direct head keeps its attempts, and any other holder is
dealt with as LineFaultAndLineReset spells; FDA low is a fault, with an attempt in flight and a waiting LINK_DISABLE dealt
with as there. Where that takes the link OFF in the same act, the answer carries OFF, the model's reading (log 12). -/
def Obligations.LinkEnableAndReset : Prop :=
  ∀ (s : State) (h k : HostId) (tag : Byte) (fda : Level) (e : Execution) (l : LaneId) (r : DirectRequest)
    (rest : List DirectRequest), s.accepts h = true →
    let enable := exec (.linkEnable h tag (.fits ()) fda) s
    let reset := exec (.linkReset h tag (.fits ()) fda) s
    let begun (u : State) : State := { u with
      fda := fda
      exec := none
      link := .lineReset .segmentGuard
      segment := 0
      phaseLeft := s.settings.segmentGuard * 10
      watchLeft := 0 }
    let faulted : State := { s with
      fda := fda
      link := .faulted
      phaseLeft := 0
      watchLeft := 10000
      faultAnnounced := true }
    let told := if s.faultAnnounced then faulted else faulted.queueAll .linkFault
    let answer (u : State) := Host.Outcome.next (φ := Fault) (ρ := Refusal) (u.respond h tag .ok (.link u.link))
    (s.lease ≠ some h → enable = .next (s.respond h tag .noLease .nothing)
        ∧ reset = .next (s.respond h tag .noLease .nothing))
      ∧ (s.lease = some h → s.link ≠ .off → enable = .next (s.respond h tag .linkActive .nothing))
      ∧ (s.lease = some h → s.link = .off → reset = answer s)
      ∧ (s.lease = some h → s.link = .off → fda = .high → s.exec = none → enable = answer (begun s))
      ∧ (s.lease = some h → s.link = .off → fda = .low → s.exec = none → s.disableWaiting = false →
          enable = answer told)
      ∧ (s.lease = some h → s.link ≠ .off → fda = .high →
          (s.exec = none → reset = answer (begun s))
            ∧ (s.exec = some e → e.holder = .lane l → (s.lane l).run = .running →
                reset = answer (begun (s.setLane l { s.lane l with run := .suspended })))
            ∧ (s.exec = some e → e.holder = .direct k → s.directQueue k = r :: rest →
                reset = answer (begun (s.setDirectQueue k
                  ({ r with attempts := e.attempts, fullySent := e.fullySent, retryLeft := none } :: rest))))
            ∧ (s.exec = some e → e.holder = .probe → reset = answer (begun s)))
      ∧ (s.lease = some h → s.link ≠ .off → fda = .low → s.exec = none → s.disableWaiting = false →
          reset = answer told)
      ∧ (s.lease = some h → s.link ≠ .off → fda = .high → reset = answer (begun s.withdraw))
      ∧ (s.lease = some h → s.link ≠ .off → fda = .low → reset = answer { s with fda := fda }.enterFaulted)
      ∧ (s.lease = some h → s.link = .off → fda = .high → enable = answer (begun s.withdraw))
      ∧ (s.lease = some h → s.link = .off → fda = .low → enable = answer { s with fda := fda }.enterFaulted)

/-- From R89, R91: LINK_DISABLE at once in OFF, IDLE and FAULTED, held in a transaction or a line reset. The OK at once carries the
link state OFF as the held one does, the model's reading (log 10). -/
def Obligations.LinkDisable : Prop :=
  ∀ (s : State) (h : HostId) (tag : Byte), s.accepts h = true →
    let got := exec (.linkDisable h tag (.fits ())) s
    (s.lease ≠ some h → got = .next (s.respond h tag .noLease .nothing))
      ∧ (s.lease = some h → s.link = .off → got = .next (s.respond h tag .ok (.link .off)))
      ∧ (s.lease = some h → s.link = .idle ∨ s.link = .faulted → s.exec = none →
          (∀ k : HostId, (s.port k).waitsFor ≠ some .linkOff) →
          got = .next ({ s with link := .off, phaseLeft := 0, watchLeft := 0, disableWaiting := false }.respond h tag
            .ok (.link .off)))
      ∧ (s.lease = some h → s.link.transacts = true ∨ s.link = .gap ∨ s.link = .lineReset .segmentGuard
            ∨ s.link = .lineReset .drive ∨ s.link = .lineReset .hold →
          got = .next ({ s with disableWaiting := true }.hold h tag .linkOff))

/-! ### Triggers and timers -/

/-- From R51, R52, R172: two samples in a row of the level opposite to the recognised one are one edge, delivered to the lanes
whose source listens to it; the first two that agree set the level with no edge. One edge reaches its lanes in
increasing lane number, the model's choice (log 13). -/
def Obligations.TrgSamplesMakeEdges : Prop :=
  ∀ (s : State) (x : Fin 4) (v r : Level), s.porLow = false →
    let m := look s.samplers x
    let moved (y : Sampler) : State := { s with samplers := put s.samplers x y }
    let hears (c : TriggerSource) : Bool :=
      c == .edge x .both || (c == .edge x .rising && v == .high) || (c == .edge x .falling && v == .low)
    let got := exec (.trgSample x v) s
    (m.level = none → m.last = some v → got = .next (moved ⟨some v, some v⟩))
      ∧ (m.level = none → m.last ≠ some v → got = .next (moved ⟨none, some v⟩))
      ∧ (m.level = some v → got = .next (moved ⟨some v, some v⟩))
      ∧ (m.level = some r → r ≠ v → m.last ≠ some v → got = .next (moved ⟨some r, some v⟩))
      ∧ (m.level = some r → r ≠ v → m.last = some v →
          got = .next (eachLane (fun l u => if hears (u.lane l).config.source then (u.arrive l).1 else u)
            (moved ⟨some v, some v⟩)))

/-- From R43, R53, R55, R56, R71, R80, R153: an expiry of a running interval timer reloads it and delivers its trigger; a
chain trigger that is due (log 14) is delivered; a retry expiry makes its holder a candidate again; a probe expiry sets the
flag; a lease expiry frees the lease and tells its holder. An expiry of a timer, the probe timer or the lease that finds
its count above 0, because a request taken first has started it again, does not occur (R55, R80, R153). The model's choices:
each has no effect where nothing runs (log 2), the lanes of one trigger are reached in increasing lane number (log 13), and
a retry expiry is taken whenever the wait runs (log 4). -/
def Obligations.ExpiriesAndChainTriggers : Prop :=
  ∀ (s : State) (t : Fin 4) (y l : LaneId) (h : HostId) (r : DirectRequest) (rest : List DirectRequest),
    let delivered (c : TriggerSource) (u : State) : State :=
      eachLane (fun l u => if (u.lane l).config.source = c then (u.arrive l).1 else u) u
    ((s.timer t).running = true → (s.timer t).left = 0 →
        exec (.timerExpiry t) s
          = .next (delivered (.timer t) (s.setTimer t { s.timer t with left := (s.timer t).period * 100 })))
      ∧ ((s.timer t).running = false ∨ (s.timer t).left ≠ 0 → exec (.timerExpiry t) s = .next s)
      ∧ (y ∈ s.chainDue →
          exec (.chainTrigger y) s = .next (delivered (.chain y) { s with chainDue := s.chainDue.erase y }))
      ∧ (y ∉ s.chainDue → exec (.chainTrigger y) s = .next s)
      ∧ ((s.lane l).run = .retryWait →
          exec (.retryExpiry (.lane l)) s = .next (s.setLane l { s.lane l with run := .ready, retryLeft := 0 }))
      ∧ ((s.lane l).run ≠ .retryWait → exec (.retryExpiry (.lane l)) s = .next s)
      ∧ (s.directQueue h = r :: rest →
          exec (.retryExpiry (.direct h)) s = .next (s.setDirectQueue h ({ r with retryLeft := none } :: rest)))
      ∧ (s.directQueue h = [] → exec (.retryExpiry (.direct h)) s = .next s)
      ∧ (s.porLow = false → s.probe.left = some 0 →
          exec .probeTimerExpiry s = .next { s with probe := ⟨true, none, s.probe.last⟩ })
      ∧ (s.probe.left ≠ some 0 → exec .probeTimerExpiry s = .next s)
      ∧ (s.lease = some h → s.leaseLeft = 0 →
          exec .leaseExpiry s = .next ({ s with lease := none }.queueEvent h .leaseExpired))
      ∧ (s.lease = none ∨ s.leaseLeft ≠ 0 → exec .leaseExpiry s = .next s)

/-! ### Arbitration and the field line -/

/-- From R60, R62, R63, R81: the candidate of the highest level is chosen, and within a level the one whose turn comes first
after the pointer; a probe's target is the SILENT station that comes first after the last-probed one. A direct head is a
candidate where it is neither in retry wait nor in execution. -/
def Obligations.HighestCandidateInTurn : Prop :=
  ∀ (s : State),
    let lanesAt (p : Fin 4) (l : LaneId) : Prop :=
      ((s.lane l).run = .ready ∨ (s.lane l).run = .suspended) ∧ (s.lane l).config.priority = p
    (∀ h, s.directWaits h = true
        ↔ ∃ r rest, s.directQueue h = r :: rest ∧ r.retryLeft = none ∧ ∀ e, s.exec = some e → e.holder ≠ .direct h)
      ∧ match s.bestCandidate with
      | some (.direct h) =>
        s.directWaits h = true ∧ ∀ k, s.directWaits k = true → turn 4 s.directPtr h ≤ turn 4 s.directPtr k
      | some (.lane l) =>
        (∀ k, s.directWaits k = false)
          ∧ ∃ p, lanesAt p l ∧ (∀ q m, p < q → ¬lanesAt q m)
            ∧ ∀ m, lanesAt p m → turn 8 (look s.lanePtr p) l ≤ turn 8 (look s.lanePtr p) m
      | some (.probe seg st) =>
        (∀ k, s.directWaits k = false) ∧ (∀ p m, ¬lanesAt p m) ∧ s.probe.due = true ∧ (s.station seg st).silent = true
          ∧ ∀ a b, (s.station a b).silent = true →
            stationTurn s.probe.last (seg, st) ≤ stationTurn s.probe.last (a, b)
      | none =>
        (∀ k, s.directWaits k = false) ∧ (∀ p m, ¬lanesAt p m)
          ∧ (s.probe.due = true → ∀ seg st, (s.station seg st).silent = false)

/-- From R18, R62, R64, R66, R67, R76, R81, R87, R88, R98, R100 to R103, R112 to R114: at a grant point the candidate chosen
receives the grant and begins its attempt, or meets a fault where FDA reads low: a lane its step at its position, a direct
head its request, a probe a READ of one byte of its target. A lane at the end of its program completes, one at a BREAK stops
there or passes it on a pending trigger; a step whose station is SILENT, or a COPY without a source, ends at its grant with
no attempt. Away from a grant point the command has no effect, the model's choice (log 2). -/
def Obligations.GrantBeginsAnAttempt : Prop :=
  ∀ (s : State) (fda : Level) (l : LaneId) (h : HostId) (r : DirectRequest) (rest : List DirectRequest)
    (st : Machine.Step) (seg : SegmentId) (n : StationId) (data : List Byte) (o : StepOutcome) (tag : Byte),
    let x := s.lane l
    let kept := x.held.getD ⟨0, false⟩
    let e : Execution :=
      ⟨.lane l, st, x.config.limit, x.config.interval, kept.attempts, kept.fullySent, true, ⟨[], false⟩⟩
    let d : Execution := ⟨.direct h, r.step, r.limit, r.interval, r.attempts, r.fullySent, true, ⟨[], false⟩⟩
    let p : Execution := ⟨.probe, .read seg n 0 1 none, 1, 0, 0, false, true, ⟨[], false⟩⟩
    let u : State := { s with fda := fda }
    let pointed : State := { u with lanePtr := put s.lanePtr x.config.priority (some l) }
    let granted : State := pointed.setLane l { x with run := .running, held := none }
    let directed : State := { u with directPtr := some h }
    let probed : State :=
      { u with probe := ⟨false, some (s.settings.probeInterval * 10000), some (seg, n)⟩ }
    let begins (v : State) (f : Execution) : Host.Outcome State Fault Refusal :=
      if seg = s.segment ∧ fda = .low then
        .next { v with exec := some { f with captured := ⟨data, v.carriedToggle f.step⟩ } }.enterFaulted
      else .next (v.begun f seg data)
    let ends : Prop := (o = .stationSilent ∧ s.silentFor st = true ∧ st.copies = false)
      ∨ (o = .stationSilent ∧ s.silentFor st = true ∧ s.carries e data)
      ∨ (o = .sourceEmpty ∧ st.copies = true ∧ ∀ b, ¬s.carries e b)
    let noted (v : State) : State := match st.into, x.write with
      | some rc, some b =>
        v.setBank l b { s.bank l b with records := put (s.bank l b).records rc ⟨some o, kept.attempts, []⟩ }
      | _, _ => v
    let failed : Lane := { x with run := .running, held := none, errorCount := x.errorCount + 1 }
    let halted : Lane := { failed with
      run := .halted
      write := none
      waiting := false
      retryLeft := 0
      pending := false
      disarmAtEnd := false }
    (s.link = .idle → s.exec = none →
        (s.bestCandidate = some (.lane l) →
            (x.program[x.position]? = some st → st.segment = some seg → s.silentFor st = false → s.carries e data →
                exec (.grant fda) s = begins granted e)
              ∧ (x.program[x.position]? = none →
                exec (.grant fda) s = .next ((pointed.setLane l { x with run := .running }).completePass l))
              ∧ (x.program[x.position]? = some (.brk tag) → x.pending = false →
                exec (.grant fda) s
                  = .next ((pointed.setLane l { x with run := .atBreak, position := x.position + 1 }).queueOwner l
                    (.breakReached l x.position tag)))
              ∧ (x.program[x.position]? = some (.brk tag) → x.pending = true →
                x.program[x.position + 1]? = some st → st.segment = some seg → s.silentFor st = false →
                (s.setLane l { x with position := x.position + 1 }).carries e data →
                exec (.grant fda) s
                  = begins (pointed.setLane l { x with
                    run := .running
                    position := x.position + 1
                    pending := false
                    held := none }) e)
              ∧ (x.program[x.position]? = some st → ends → x.config.onError = .halt →
                exec (.grant fda) s
                  = .next (((noted (granted.settleToggle st kept.fullySent)).setLane l halted).queueOwner l
                    (.laneHalted l x.position o)))
              ∧ (x.program[x.position]? = some st → ends → x.config.onError = .skip →
                ∀ k, k + 1 = driveRounds →
                exec (.grant fda) s
                  = .next (((((noted (granted.settleToggle st kept.fullySent)).setLane l
                    { failed with position := x.position + 1 }).queueOwner l
                      (.stepError l x.position o kept.attempts)).boundary l).drive k)))
          ∧ (s.bestCandidate = some (.direct h) → s.directQueue h = r :: rest →
              r.step.asks ≠ 0 ∨ r.step.patchable = true →
              (r.step.segment = some seg → s.silentFor r.step = false → s.carries d data →
                  exec (.grant fda) s = begins directed d)
                ∧ (s.silentFor r.step = true →
                  exec (.grant fda) s
                    = .next (((directed.settleToggle r.step r.fullySent).setDirectQueue h rest).queueEvent h
                      (.directDone r.hostTag .stationSilent r.attempts none))))
          ∧ (s.bestCandidate = some (.probe seg n) → data = [] → exec (.grant fda) s = begins probed p))
      ∧ (s.grantPoint = false → exec (.grant fda) s = .next s)

/-- From R18, R36, R83, R84, R87, R88, R91, R98, R102, R104, R108, R112 to R114, R175: after the segment guard the frame's data is
taken afresh and the frame begins, if FDA reads high, while a COPY without a source ends there with no frame and no gap: the
line is free at once, or OFF where a LINK_DISABLE waits, and a lane in STOPPING goes IDLE. The frame on the line is header, index, length, data and check byte; a frame fully sent sets the mark and awaits a reply, or is
followed by the gap after a BROADCAST; a first low bit stops the reply timeout, and a second one takes the link to RECEIVING
(log 17). The model's choice: each has no effect in another link state (log 2). -/
def Obligations.FrameGoesOutAndIsAwaited : Prop :=
  ∀ (s : State) (e : Execution) (data : List Byte) (fda : Level) (l : LaneId) (h : HostId) (tag : Byte)
    (seg : SegmentId)
    (n : StationId) (idx : Byte) (c : Nat) (y : LaneId) (rc : RecordId) (into : Option RecordId), s.exec = some e →
    let sent : Execution := { e with inFlight := true, captured := ⟨data, s.carriedToggle e.step⟩ }
    let x := s.lane l
    let u : State := { s with fda := fda, exec := none }.settleToggle e.step e.fullySent
    let noted : State := match e.step.into, x.write with
      | some rc, some b =>
        u.setBank l b { s.bank l b with records := put (s.bank l b).records rc ⟨some .sourceEmpty, e.attempts, []⟩ }
      | _, _ => u
    let failed : Lane := { x with errorCount := x.errorCount + 1 }
    let halted : State := (noted.setLane l { failed with
      run := .halted
      write := none
      waiting := false
      retryLeft := 0
      pending := false
      disarmAtEnd := false }).queueOwner l (.laneHalted l x.position .sourceEmpty)
    let skipped : State := ((noted.setLane l { failed with position := x.position + 1 }).queueOwner l
      (.stepError l x.position .sourceEmpty e.attempts)).boundary l
    let stopped : State := noted.setLane l { x with
      run := .idle
      position := 0
      write := none
      waiting := false
      retryLeft := 0
      pending := false
      disarmAtEnd := false }
    let answered : State := (stopped.queueEvent h (.passAbandoned l x.position)).setPort h { s.port h with
      state := .ready ⟨.ok, tag, .stopped .running⟩
      expiry := 20000 }
    let free (t : State) : State := if s.disableWaiting then t.goOff else { t with link := .idle, phaseLeft := 0 }
    let checked (b : List Byte) : List Byte := b ++ [crc b]
    let bit := if e.captured.toggle then 1 else 0
    let long := BitVec.ofNat 8 e.captured.data.length
    (s.link = .switching → s.carries e data →
        exec (.segmentGuardEnd .high) s
          = .next { s with
            fda := .high
            exec := some sent
            link := .sending
            phaseLeft := (34 + 8 * data.length) * s.settings.lineRate.bitTime })
      ∧ (s.link = .switching → s.carries e data →
          exec (.segmentGuardEnd .low) s = .next { s with fda := .low, exec := some sent }.enterFaulted)
      ∧ (s.link = .switching → e.step.copies = true → (∀ b, ¬s.carries e b) → e.holder = .lane l → x.held = none →
          let got := exec (.segmentGuardEnd fda) s
          (x.run = .running → x.config.onError = .halt → got = .next (free halted))
            ∧ (x.run = .running → x.config.onError = .skip →
              (s.disableWaiting = false → got = .next ((free skipped).drive driveRounds))
                ∧ (s.disableWaiting = true → got = .next (free skipped)))
            ∧ (x.run = .stopping → x.owner = some h → (s.port h).state = .busy ⟨tag, .laneStop l⟩ →
              (∀ k, k ≠ h → (s.port k).waitsFor ≠ some (.laneStop l)) → got = .next (free answered))
            ∧ (x.run = .stopping → x.owner = none → (∀ k : HostId, (s.port k).waitsFor ≠ some (.laneStop l)) →
              got = .next (free stopped)))
      ∧ (s.link ≠ .switching → exec (.segmentGuardEnd fda) s = .next s)
      ∧ (c ≠ 0 → e.captured.data = [] →
          { e with step := .read seg n idx c into }.fieldFrame
            = checked [BitVec.ofNat 8 (8 * n.val), idx, BitVec.ofNat 8 c])
      ∧ { e with step := .write seg n idx data into }.fieldFrame
        = checked ([BitVec.ofNat 8 (8 * n.val + 2 + bit), idx, long] ++ e.captured.data)
      ∧ { e with step := .copy seg n idx y rc into }.fieldFrame
        = checked ([BitVec.ofNat 8 (8 * n.val + 2 + bit), idx, long] ++ e.captured.data)
      ∧ { e with step := .broadcast seg idx data into }.fieldFrame = checked ([0xFC#8, idx, long] ++ e.captured.data)
      ∧ (s.link = .sending → e.step.isBroadcast = true →
          exec .frameFullySent s
            = .next { s with
              exec := some { e with fullySent := true }
              link := .gap
              phaseLeft := 4 * s.settings.lineRate.bitTime })
      ∧ (s.link = .sending → e.step.isBroadcast = false →
          exec .frameFullySent s
            = .next { s with
              exec := some { e with fullySent := true }
              link := .awaitReply false
              phaseLeft := s.settings.replyTimeout * 10 })
      ∧ (s.link ≠ .sending → exec .frameFullySent s = .next s)
      ∧ (s.link = .awaitReply false →
          exec .replyStartMark s = .next { s with link := .awaitReply true, phaseLeft := 0 })
      ∧ (s.link = .awaitReply true → exec .replyStartMark s = .next { s with link := .receiving, phaseLeft := 0 })
      ∧ ((∀ b, s.link ≠ .awaitReply b) → exec .replyStartMark s = .next s)
      ∧ (s.link ≠ .awaitReply false → exec .replyTimeout s = .next s)

/-- From R84, R174, R175: how a reply is judged: its start mark, its status, its check byte over the status and the data asked for,
with the bits a station does not send read as 1s. -/
def Obligations.RepliesAreJudged : Prop :=
  ∀ (n : Nat) (status check : Byte) (data rest : List Byte),
    judgeReply n .malformedMark = .frameFault
      ∧ (status ≠ 0x5A#8 → status ≠ 0x3C#8 → status ≠ 0x0F#8 → judgeReply n (.bytes status rest) = .frameFault)
      ∧ (data.length = n →
          judgeReply n (.bytes 0x5A#8 (data ++ check :: rest))
            = if check = crc (0x5A#8 :: data) then .accept data else .checkFail)
      ∧ judgeReply n (.bytes 0x3C#8 (check :: rest)) = (if check = crc [0x3C#8] then .defer else .checkFail)
      ∧ judgeReply n (.bytes 0x0F#8 (check :: rest)) = (if check = crc [0x0F#8] then .refuse else .checkFail)
      ∧ (rest.length < n + 1 →
          judgeReply n (.bytes 0x5A#8 rest)
            = judgeReply n (.bytes 0x5A#8 (rest ++ List.replicate (n + 1 - rest.length) 0xFF#8)))

/-- From R70, R84, R87, R97, R104 to R107: a counted failure below the attempt limit that does not silence its station raises the
failure count, or clears it on a DEFER, and puts the holder into retry wait with what it keeps, as the link enters GAP. A
malformed start mark ends the reply in AWAIT_REPLY, any other in RECEIVING. -/
def Obligations.CountedFailureEntersRetryWait : Prop :=
  ∀ (s : State) (e : Execution) (reply : ReplyWire) (l : LaneId) (h : HostId) (r : DirectRequest)
    (rest : List DirectRequest) (seg : SegmentId) (n : StationId) (m : Bool),
    s.exec = some e → e.step.station = some (seg, n) → (s.station seg n).silent = false →
    e.attempts + 1 < e.limit →
      let z := s.station seg n
      let result := judgeReply e.step.asks reply
      let failures := if result = .defer then 0 else z.failures + 1
      let gap (failures : Nat) : State :=
        { s with
          exec := none
          link := .gap
          phaseLeft := 4 * s.settings.lineRate.bitTime }.setStation seg n { z with failures := failures }
      let waits (failures : Nat) : State := (gap failures).setLane l { s.lane l with
        run := .retryWait
        held := some ⟨e.attempts + 1, e.fullySent⟩
        retryLeft := e.interval * 50 }
      let headWaits (failures : Nat) : State := (gap failures).setDirectQueue h
        ({ r with
          attempts := e.attempts + 1
          fullySent := e.fullySent
          retryLeft := some (e.interval * 50) } :: rest)
      (s.link = .awaitReply false → z.failures + 1 < s.settings.silentThreshold → s.settings.silentThreshold ≤ 15 →
          (e.holder = .lane l → (s.lane l).run = .running →
              exec .replyTimeout s = .next (waits (z.failures + 1)))
            ∧ (e.holder = .direct h → s.directQueue h = r :: rest →
                exec .replyTimeout s = .next (headWaits (z.failures + 1))))
        ∧ ((s.link = .receiving ∧ reply ≠ .malformedMark) ∨ (s.link = .awaitReply m ∧ reply = .malformedMark) →
            result ≠ .refuse → (∀ d, result ≠ .accept d) →
            failures < s.settings.silentThreshold → s.settings.silentThreshold ≤ 15 →
            (e.holder = .lane l → (s.lane l).run = .running →
                exec (.replyEnd reply) s = .next (waits failures))
              ∧ (e.holder = .direct h → s.directQueue h = r :: rest →
                  exec (.replyEnd reply) s = .next (headWaits failures)))

/-- From R36, R41, R66, R76, R78, R81, R97, R98, R105, R111 to R113, R117: a reply with ACCEPT ends the step DONE as the link
enters GAP: the station is PRESENT with count 0, the toggle of a WRITE or COPY flips, a lane's record is written and its
position moves on to the boundary. A lane in STOPPING has its record written into the bank it discards and goes IDLE, an
OWNED one with PASS_ABANDONED and its held response ready, an ORPHAN one with neither. A direct request completes, and a
discarded one and a probe end. -/
def Obligations.AcceptedReplyEndsTheStep : Prop :=
  ∀ (s : State) (e : Execution) (reply : ReplyWire) (data : List Byte) (l : LaneId) (h : HostId) (tag : Byte)
    (r : DirectRequest) (rest : List DirectRequest) (seg : SegmentId) (n : StationId),
    s.exec = some e → s.link = .receiving → e.step.station = some (seg, n) →
    judgeReply e.step.asks reply = .accept data →
      let x := s.lane l
      let z := s.station seg n
      let got := exec (.replyEnd reply) s
      let kept : List Byte := match e.step with
        | .copy .. => e.captured.data
        | _ => data
      let u := { s with
        exec := none
        link := .gap
        phaseLeft := 4 * s.settings.lineRate.bitTime }.setStation seg n
          ⟨false, 0, if e.step.toggles.isSome && e.fullySent then !z.toggle else z.toggle⟩
      let noted : State := match e.step.into, x.write with
        | some rc, some b =>
          u.setBank l b { s.bank l b with records := put (s.bank l b).records rc ⟨some .done, e.attempts + 1, kept⟩ }
        | _, _ => u
      let stopped : State := noted.setLane l { x with
        run := .idle
        position := 0
        write := none
        waiting := false
        retryLeft := 0
        pending := false
        disarmAtEnd := false }
      (z.silent = false → e.holder = .lane l → x.run = .running →
          got = .next ((noted.setLane l { x with position := x.position + 1 }).boundary l))
        ∧ (z.silent = false → e.holder = .lane l → x.run = .stopping → x.held = none → x.owner = some h →
            (s.port h).state = .busy ⟨tag, .laneStop l⟩ →
            (∀ k, k ≠ h → (s.port k).waitsFor ≠ some (.laneStop l)) →
            got = .next ((stopped.queueEvent h (.passAbandoned l x.position)).setPort h { s.port h with
              state := .ready ⟨.ok, tag, .stopped .running⟩
              expiry := 20000 }))
        ∧ (z.silent = false → e.holder = .lane l → x.run = .stopping → x.held = none → x.owner = none →
            (∀ k : HostId, (s.port k).waitsFor ≠ some (.laneStop l)) → got = .next stopped)
        ∧ (z.silent = false → e.holder = .discarded → got = .next u)
        ∧ (z.silent = false → e.holder = .direct h → s.directQueue h = r :: rest →
            got = .next ((u.setDirectQueue h rest).queueEvent h
              (.directDone r.hostTag .done (e.attempts + 1) (if e.step.asks ≠ 0 then some data else none))))
        ∧ (z.silent = true → e.holder = .probe → got = .next (u.queueAll (.stationBack seg n)))

/-- From R36, R41, R76, R78, R81, R84, R97, R98, R104 to R106, R111 to R114, R117: a counted failure that ends its step,
by REPLY_TIMEOUT or REPLY_END, a malformed start mark ending the reply in AWAIT_REPLY whether or not its first bit came
as a command of its own (log 17): a REFUSE at any attempt, a failure that makes the station SILENT, any other at the
attempt limit, in STOPPING, and for a discarded request or a probe. The station is counted and announced, the toggle
settled and the record written; under SKIP the error is counted, STEP_ERROR goes to the owner and the lane comes to its
boundary; under HALT the pass is abandoned, the lane HALTED at the failed step, and LANE_HALTED goes to the owner; a lane
in STOPPING goes IDLE, an OWNED one answering its LANE_STOP, an ORPHAN one with no event; a direct request completes with
its outcome; a discarded one and a probe end. -/
def Obligations.FailedStepSkipsOrHalts : Prop :=
  ∀ (s : State) (e : Execution) (i : Instr) (reply : ReplyWire) (result : AttemptResult) (o : StepOutcome) (m : Bool)
    (l : LaneId) (h : HostId) (tag : Byte) (r : DirectRequest) (rest : List DirectRequest) (seg : SegmentId)
    (n : StationId),
    let x := s.lane l
    let z := s.station seg n
    let valid := result = .defer ∨ result = .refuse
    let failures := if valid then 0 else min (z.failures + 1) 15
    let silent := if valid then false else z.silent || decide (s.settings.silentThreshold ≤ failures)
    let silenced := z.silent = false ∧ silent = true
    let last := e.limit ≤ e.attempts + 1 ∨ (e.holder = .lane l ∧ x.run = .stopping) ∨ e.holder = .discarded
      ∨ e.holder = .probe
    s.exec = some e → e.step.station = some (seg, n) →
    ((i = .replyTimeout ∧ s.link = .awaitReply false ∧ result = .noReply)
      ∨ (i = .replyEnd reply ∧ result = judgeReply e.step.asks reply ∧ s.link = .receiving ∧ reply ≠ .malformedMark)
      ∨ (i = .replyEnd reply ∧ result = .frameFault ∧ s.link = .awaitReply m ∧ reply = .malformedMark)) →
    ((result = .refuse ∧ o = .refused) ∨ (result ≠ .refuse ∧ silenced ∧ o = .stationSilent)
      ∨ (¬silenced ∧ last ∧ (result, o) ∈ [(.defer, .deferred), (.noReply, .noReply), (.checkFail, .checkFail),
        (.frameFault, .frameFault)])) →
    (∀ d, result ≠ .accept d) →
      let got := exec i s
      let flip := if e.step.toggles.isSome && e.fullySent then !z.toggle else z.toggle
      let u : State := { s with
        exec := none
        link := .gap
        phaseLeft := 4 * s.settings.lineRate.bitTime }.setStation seg n ⟨silent, failures, flip⟩
      let told : State :=
        if silenced then u.queueAll (.stationSilent seg n)
        else if z.silent = true ∧ valid then u.queueAll (.stationBack seg n) else u
      let noted : State := match e.step.into, x.write with
        | some rc, some b =>
          told.setBank l b { s.bank l b with records := put (s.bank l b).records rc ⟨some o, e.attempts + 1, []⟩ }
        | _, _ => told
      (e.holder = .lane l → x.held = none →
          (x.run = .running → x.config.onError = .skip →
              got = .next (((noted.setLane l { x with
                errorCount := x.errorCount + 1
                position := x.position + 1 }).queueOwner l
                  (.stepError l x.position o (e.attempts + 1))).boundary l))
            ∧ (x.run = .running → x.config.onError = .halt →
              got = .next ((noted.setLane l { x with
                run := .halted
                errorCount := x.errorCount + 1
                write := none
                waiting := false
                retryLeft := 0
                pending := false
                disarmAtEnd := false }).queueOwner l (.laneHalted l x.position o)))
            ∧ (x.run = .stopping → x.owner = some h → (s.port h).state = .busy ⟨tag, .laneStop l⟩ →
              (∀ k, k ≠ h → (s.port k).waitsFor ≠ some (.laneStop l)) →
              got = .next (((noted.setLane l { x with
                run := .idle
                position := 0
                write := none
                waiting := false
                retryLeft := 0
                pending := false
                disarmAtEnd := false }).queueEvent h (.passAbandoned l x.position)).setPort h { s.port h with
                  state := .ready ⟨.ok, tag, .stopped .running⟩
                  expiry := 20000 }))
            ∧ (x.run = .stopping → x.owner = none → (∀ k : HostId, (s.port k).waitsFor ≠ some (.laneStop l)) →
              got = .next (noted.setLane l { x with
                run := .idle
                position := 0
                write := none
                waiting := false
                retryLeft := 0
                pending := false
                disarmAtEnd := false })))
        ∧ (e.holder = .direct h → s.directQueue h = r :: rest →
            got = .next ((told.setDirectQueue h rest).queueEvent h (.directDone r.hostTag o (e.attempts + 1) none)))
        ∧ (e.holder = .discarded ∨ e.holder = .probe → got = .next told)

/-- From R64, R66 to R68, R99: a step boundary: the end of the program completes the pass; a BREAK consumes a pending trigger and
the checks begin again, or stops the lane with BREAK_REACHED; a candidate of a strictly higher level preempts, CONTINUE
keeping the position and RESTART beginning again in the same bank cleared, and the grant passes to it, a direct head or a
lane of a higher priority; otherwise the next step is put into execution. -/
def Obligations.StepBoundaryOrder : Prop :=
  ∀ (s : State) (l m : LaneId) (tag : Byte) (st sm : Machine.Step) (h : HostId) (r : DirectRequest)
    (rest : List DirectRequest) (b : BankId),
    let x := s.lane l
    let y := s.lane m
    let next := x.program[x.position]?
    let waits (k : LaneId) : Prop := (s.lane k).run = .ready ∨ (s.lane k).run = .suspended
    let higher := (∃ k, s.directWaits k = true) ∨ ∃ k, waits k ∧ x.config.priority < (s.lane k).config.priority
    let granted (u : State) : State := { u with
      directPtr := some h
      exec := some ⟨.direct h, r.step, r.limit, r.interval, r.attempts, r.fullySent, false, ⟨[], false⟩⟩ }
    let kept := y.held.getD ⟨0, false⟩
    let handed (u : State) : State := { u.setLane m { y with run := .running, held := none } with
      lanePtr := put s.lanePtr y.config.priority (some m)
      exec := some ⟨.lane m, sm, y.config.limit, y.config.interval, kept.attempts, kept.fullySent, false,
        ⟨[], false⟩⟩ }
    let restarted : State := (s.setLane l { x with run := .suspended, position := 0, errorCount := 0 }).setBank l b
      { s.bank l b with records := fill 64 ⟨none, 0, []⟩ }
    (next = none → s.boundary l = s.completePass l)
      ∧ (next = some (.brk tag) → x.pending = true →
          s.boundary l = (s.setLane l { x with position := x.position + 1, pending := false }).boundary l)
      ∧ (next = some (.brk tag) → x.pending = false →
          s.boundary l
            = (s.setLane l { x with position := x.position + 1, run := .atBreak }).queueOwner l
              (.breakReached l x.position tag))
      ∧ (next = some st → st.segment ≠ none → ¬higher → x.held = none →
          s.boundary l
            = { s with exec := some ⟨.lane l, st, x.config.limit, x.config.interval, 0, false, false, ⟨[], false⟩⟩ })
      ∧ (next = some st → st.segment ≠ none → s.exec = none → s.directWaits h = true → s.directQueue h = r :: rest →
          (∀ k, s.directWaits k = true → turn 4 s.directPtr h ≤ turn 4 s.directPtr k) →
          (x.config.resume = .continue → s.boundary l = granted (s.setLane l { x with run := .suspended }))
            ∧ (x.config.resume = .restart → x.write = some b → s.boundary l = granted restarted))
      ∧ (next = some st → st.segment ≠ none → (∀ k, s.directWaits k = false) → waits m →
          x.config.priority < y.config.priority →
          (∀ k, waits k → (s.lane k).config.priority ≤ y.config.priority) →
          (∀ k, waits k → (s.lane k).config.priority = y.config.priority →
            turn 8 (look s.lanePtr y.config.priority) m ≤ turn 8 (look s.lanePtr y.config.priority) k) →
          y.program[y.position]? = some sm → sm.segment ≠ none →
          (x.config.resume = .continue → s.boundary l = handed (s.setLane l { x with run := .suspended }))
            ∧ (x.config.resume = .restart → x.write = some b → s.boundary l = handed restarted))

/-- From R47, R72, R73, R120, R124, R140: a pass completes: its bank is stamped and becomes the front bank, the generation moves on
by one, PASS_DONE goes to the subscribers, and mode, disarm-at-end and pending give the lane's next state. Its chain trigger (R56) is due from
then on, in a list of the model's own (log 14). -/
def Obligations.PassCompletionPublishes : Prop :=
  ∀ (s : State) (l : LaneId) (b : BankId), (s.lane l).write = some b →
    let x := s.lane l
    let g := x.generation + 1
    let written := ((s.bank l b).records.toList.filter fun r => r.outcome.isSome).length
    let u := { s.setBank l b { s.bank l b with stamp := ⟨g, s.timestamp, x.errorCount, written⟩ } with
      chainDue := s.chainDue ++ [l] }.queueSubscribers l (.passDone l g x.errorCount)
    let y := { x with front := some b, write := none, generation := g }
    let idle := { y with run := .idle, position := 0, disarmAtEnd := false, pending := false }
    let again := x.config.mode = .continuous ∧ x.disarmAtEnd = false
    (again → x.pending = false → s.completePass l = u.setLane l { y with run := .armed, position := 0 })
      ∧ (again → x.pending = true → s.completePass l = (u.setLane l { y with pending := false }).passStart l)
      ∧ (¬again → x.pending = false → s.completePass l = u.setLane l idle)
      ∧ (¬again → x.pending = true → x.overrun = 0 →
          s.completePass l = (u.setLane l { idle with overrun := 1 }).queueOwner l (.triggerOverrun l))
      ∧ (¬again → x.pending = true → x.overrun ≠ 0 →
          s.completePass l
            = u.setLane l { idle with overrun := if x.overrun < 255 then x.overrun + 1 else x.overrun })

/-- From R36, R41, R59, R78, R87, R88, R91, R100, R103, R108, R112: the end of the gap: the link is IDLE, or OFF with every
waiting LINK_DISABLE answered; a BROADCAST in its gap is DONE with one attempt, whether a lane's, whose boundary then comes,
one of a lane in STOPPING, OWNED or ORPHAN, a direct or a discarded one; and a holder of the grant begins its attempt on the
free line, at once ending a step whose station is SILENT or whose COPY has no source. The model's choice: the command has no
effect in another link state (log 2). -/
def Obligations.GapEndFreesTheLine : Prop :=
  ∀ (s : State) (fda : Level) (e : Execution) (l : LaneId) (h : HostId) (tag : Byte) (r : DirectRequest)
    (rest : List DirectRequest) (seg : SegmentId) (data : List Byte) (k : Nat),
    let got := exec (.gapEnd fda) s
    let freed : State := { s with fda := fda, link := .idle, phaseLeft := 0 }
    let x := s.lane l
    let begins := { e with inFlight := true }
    let done : State := match e.step.into, x.write with
      | some rc, some b =>
        { s with fda := fda, exec := none }.setBank l b { s.bank l b with
          records := put (s.bank l b).records rc ⟨some .done, 1, []⟩ }
      | _, _ => { s with fda := fda, exec := none }
    let after : State := (done.setLane l { x with position := x.position + 1 }).boundary l
    let stopped : State := done.setLane l { x with
      run := .idle
      position := 0
      write := none
      waiting := false
      retryLeft := 0
      pending := false
      disarmAtEnd := false }
    let free (t : State) : State := if s.disableWaiting then t.goOff else { t with link := .idle, phaseLeft := 0 }
    (s.exec = none ∨ s.link ≠ .idle → s.drive k = s)
      ∧ (s.exec = some e → s.link = .idle → e.holder ≠ .probe →
          (e.step.copies = true → (∀ b, ¬s.carries e b) → s.drive (k + 1) = (s.stepEnd e .sourceEmpty []).drive k)
            ∧ (s.silentFor e.step = true → e.step.copies = false ∨ s.carries e data →
              s.drive (k + 1) = (s.stepEnd e .stationSilent []).drive k)
            ∧ (s.silentFor e.step = false → s.carries e data → e.step.segment = some seg →
              seg ≠ s.segment ∨ s.fda = .high → s.drive (k + 1) = s.begun begins seg data)
            ∧ (s.silentFor e.step = false → s.carries e data → e.step.segment = some s.segment → s.fda = .low →
              s.drive (k + 1)
                = { s with exec := some { begins with captured := ⟨data, s.carriedToggle e.step⟩ } }.enterFaulted))
      ∧ (s.link ≠ .gap → got = .next s)
      ∧ (s.link = .gap →
          (s.exec = none → s.disableWaiting = false → got = .next freed)
            ∧ (s.exec = none → s.disableWaiting = true →
              ∃ t, got = .next t
                ∧ t = { s with
                  fda := fda
                  link := .off
                  phaseLeft := 0
                  watchLeft := 0
                  disableWaiting := false
                  ports := t.ports }
                ∧ ∀ k, t.port k
                  = match (s.port k).state with
                    | .busy ⟨tag, .linkOff⟩ =>
                      { s.port k with state := .ready ⟨.ok, tag, .link .off⟩, expiry := 20000 }
                    | _ => s.port k)
            ∧ (s.exec = some e → s.disableWaiting = true → e.inFlight = false →
              got = .next ({ s with fda := fda }.goOff))
            ∧ (s.exec = some e → s.disableWaiting = false → e.inFlight = false → e.step.segment = some seg →
              s.silentFor e.step = false → s.carries e data → seg ≠ s.segment ∨ fda = .high →
              got = .next (freed.begun begins seg data))
            ∧ (s.exec = some e → e.inFlight = true → e.step.isBroadcast = true →
              (e.holder = .direct h → s.directQueue h = r :: rest →
                  got = .next (free (({ s with fda := fda, exec := none }.setDirectQueue h rest).queueEvent h
                    (.directDone r.hostTag .done 1 none))))
                ∧ (e.holder = .lane l → x.run = .running → s.disableWaiting = false →
                  got = .next ((free after).drive driveRounds))
                ∧ (e.holder = .lane l → x.run = .running → s.disableWaiting = true → got = .next after.goOff)
                ∧ (e.holder = .lane l → x.run = .stopping → x.held = none → x.owner = some h →
                  (s.port h).state = .busy ⟨tag, .laneStop l⟩ →
                  (∀ k, k ≠ h → (s.port k).waitsFor ≠ some (.laneStop l)) →
                  got = .next (free ((stopped.queueEvent h (.passAbandoned l x.position)).setPort h { s.port h with
                    state := .ready ⟨.ok, tag, .stopped .running⟩
                    expiry := 20000 })))
                ∧ (e.holder = .lane l → x.run = .stopping → x.held = none → x.owner = none →
                  (∀ k : HostId, (s.port k).waitsFor ≠ some (.laneStop l)) → got = .next (free stopped))
                ∧ (e.holder = .discarded ∨ e.holder = .probe →
                  got = .next (free { s with fda := fda, exec := none }))))

/-- From R36, R37, R65, R91, R92, R94, R95, R109: a line fault takes the link to FAULTED with its 10 ms watch, LINK_FAULT going out
once until it is recovered, or on to OFF where a LINK_DISABLE waits; the watch restarts on a low and its expiry, when it has
run out, begins the line reset; the reset goes through guard, drive and hold on each segment, and its end sets every station
PRESENT, 0, 0 and announces the recovery (logs 4, 22). Of the holder: a RUNNING lane is SUSPENDED at its position, one in
STOPPING goes IDLE with its toggle settled and its LANE_STOP answered, a direct head keeps its attempts, a discarded request
settles its toggle (log 15), a probe is dropped. -/
def Obligations.LineFaultAndLineReset : Prop :=
  ∀ (s : State) (e : Execution) (l : LaneId) (h : HostId) (tag : Byte) (r : DirectRequest) (rest : List DirectRequest)
    (g : SegmentId),
    let bit := s.settings.lineRate.bitTime
    let told (u : State) : State := if s.faultAnnounced then u else u.queueAll .linkFault
    let faulted : State := { s with
      fda := .low
      exec := none
      link := .faulted
      phaseLeft := 0
      watchLeft := 10000
      faultAnnounced := true }
    let visit (g : SegmentId) : State := { s with
      fda := .high
      link := .lineReset .segmentGuard
      segment := g
      phaseLeft := s.settings.segmentGuard * 10
      watchLeft := 0 }
    let reset : State := { s with
      fda := .high
      stations := fill 4 (fill 31 ⟨false, 0, false⟩)
      link := .idle
      phaseLeft := 0
      faultAnnounced := false }
    let x := s.lane l
    let settled : State := { s.settleToggle e.step e.fullySent with exec := none }
    let stopped : Lane := { x with
      run := .idle
      position := 0
      write := none
      waiting := false
      retryLeft := 0
      pending := false
      disarmAtEnd := false }
    let w := s.withdraw
    let entered : State := { (if s.faultAnnounced then w else w.queueAll .linkFault) with
      link := .faulted
      phaseLeft := 0
      watchLeft := 10000
      faultAnnounced := true }
    (s.exec = none → w = s)
      ∧ (s.exec = some e →
          (e.holder = .lane l → x.run ≠ .stopping → w = { s with exec := none }.setLane l { x with run := .suspended })
            ∧ (e.holder = .lane l → x.run = .stopping → x.owner = some h → x.held = none →
              (s.port h).state = .busy ⟨tag, .laneStop l⟩ → (∀ k, k ≠ h → (s.port k).waitsFor ≠ some (.laneStop l)) →
              w = ((settled.setLane l stopped).queueEvent h (.passAbandoned l x.position)).setPort h { s.port h with
                state := .ready ⟨.ok, tag, .stopped .running⟩
                expiry := 20000 })
            ∧ (e.holder = .lane l → x.run = .stopping → x.owner = none → x.held = none →
              (∀ k : HostId, (s.port k).waitsFor ≠ some (.laneStop l)) → w = settled.setLane l stopped)
            ∧ (e.holder = .direct h → s.directQueue h = r :: rest →
              w = { s with exec := none }.setDirectQueue h
                ({ r with attempts := e.attempts, fullySent := e.fullySent, retryLeft := none } :: rest))
            ∧ (e.holder = .discarded → w = settled)
            ∧ (e.holder = .probe → w = { s with exec := none }))
      ∧ (s.disableWaiting = false → s.enterFaulted = entered)
      ∧ (s.disableWaiting = true → s.enterFaulted = entered.goOff)
      ∧ s.goOff = { w with
        link := .off
        phaseLeft := 0
        watchLeft := 0
        disableWaiting := false
        ports := s.goOff.ports }
      ∧ (∀ k, s.goOff.port k
          = match (w.port k).state with
            | .busy ⟨tag, .linkOff⟩ => { w.port k with state := .ready ⟨.ok, tag, .link .off⟩, expiry := 20000 }
            | _ => w.port k)
      ∧ (s.link = .switching ∨ s.link = .sending ∨ s.link = .lineReset .segmentGuard ∨ s.link = .lineReset .hold →
          exec .lineFault s = .next { s with fda := .low }.enterFaulted)
      ∧ (s.link = .lineReset .segmentGuard →
          exec (.lineResetGuardEnd .low) s = .next { s with fda := .low }.enterFaulted)
      ∧ (s.link = .lineReset .hold → exec (.lineResetHoldEnd .low) s = .next { s with fda := .low }.enterFaulted)
      ∧ (s.link = .lineReset .hold → s.segment = 3 → s.disableWaiting = true →
          exec (.lineResetHoldEnd .high) s
            = .next (if s.faultAnnounced then reset.queueAll .linkRecovered else reset).goOff)
      ∧ (s.disableWaiting = false →
        (s.link = .switching ∨ s.link = .sending → s.exec = some e → e.holder = .lane l →
            (s.lane l).run = .running →
            exec .lineFault s = .next (told (faulted.setLane l { s.lane l with run := .suspended })))
          ∧ (s.link = .switching ∨ s.link = .sending → s.exec = some e → e.holder = .direct h →
              s.directQueue h = r :: rest →
              exec .lineFault s = .next (told (faulted.setDirectQueue h
                ({ r with attempts := e.attempts, fullySent := e.fullySent, retryLeft := none } :: rest))))
          ∧ (s.link = .switching ∨ s.link = .sending → s.exec = some e → e.holder = .probe →
              exec .lineFault s = .next (told faulted))
          ∧ (s.link = .lineReset .segmentGuard → s.exec = none →
              exec .lineFault s = .next (told faulted)
                ∧ exec (.lineResetGuardEnd .low) s = .next (told faulted))
          ∧ (s.link = .lineReset .hold → s.exec = none →
              exec .lineFault s = .next (told faulted) ∧ exec (.lineResetHoldEnd .low) s = .next (told faulted))
          ∧ (s.link = .lineReset .hold → s.segment = 3 →
              exec (.lineResetHoldEnd .high) s
                = .next (if s.faultAnnounced then reset.queueAll .linkRecovered else reset)))
      ∧ (s.link = .faulted →
          exec .recoveryWatchRestart s = .next { s with fda := .low, watchLeft := 10000 }
            ∧ (s.watchLeft = 0 → exec .recoveryWatchExpiry s = .next (visit 0))
            ∧ (s.watchLeft ≠ 0 → exec .recoveryWatchExpiry s = .next s))
      ∧ (s.link = .lineReset .segmentGuard →
          exec (.lineResetGuardEnd .high) s
            = .next { s with fda := .high, link := .lineReset .drive, phaseLeft := 32 * bit })
      ∧ (s.link = .lineReset .drive →
          exec .lineResetDriveEnd s = .next { s with link := .lineReset .hold, phaseLeft := 4 * bit })
      ∧ (s.link = .lineReset .hold → s.segment.val + 1 = g.val →
          exec (.lineResetHoldEnd .high) s = .next (visit g))

end Statements
end

