-- ==== Sys2Proof/Laws/State.lean ====
section
/-! SUPPORT. The small lemmas of the tables and of the state's updates: one for each field that an update leaves, one for
each entry that it leaves, and the reading of what was written. -/

namespace Sys2Proof

@[simp] theorem look_put_self {n : Nat} {α : Type} (t : Table n α) (i : Fin n) (x : α) : look (put t i x) i = x := by
  simp [look, put]

@[simp] theorem look_put_ne {n : Nat} {α : Type} (t : Table n α) {i j : Fin n} (x : α) (h : i ≠ j) :
    look (put t i x) j = look t j := by
  have hv : i.val ≠ j.val := fun e => h (Fin.ext e)
  simp [look, put, Vector.getElem_set_ne, hv]

theorem look_put {n : Nat} {α : Type} (t : Table n α) (i j : Fin n) (x : α) :
    look (put t i x) j = if i = j then x else look t j := by
  by_cases h : i = j
  · subst h; simp
  · simp [h]

@[simp] theorem look_fill {n : Nat} {α : Type} (x : α) (i : Fin n) : look (fill n x) i = x := by
  simp [look, fill]

@[simp] theorem look_map {n : Nat} {α β : Type} (f : α → β) (t : Table n α) (i : Fin n) :
    look (t.map f) i = f (look t i) := by
  simp [look]

theorem table_ext {n : Nat} {α : Type} {t u : Table n α} (h : ∀ i, look t i = look u i) : t = u := by
  apply Vector.ext
  intro i hi
  exact h ⟨i, hi⟩

@[simp] theorem put_look {n : Nat} {α : Type} (t : Table n α) (i : Fin n) : put t i (look t i) = t := by
  apply table_ext
  intro j
  by_cases h : i = j
  · subst h; simp
  · simp [h]

@[simp] theorem put_put {n : Nat} {α : Type} (t : Table n α) (i : Fin n) (x y : α) : put (put t i x) i y = put t i y := by
  apply table_ext
  intro j
  by_cases h : i = j
  · subst h; simp
  · simp [h]

namespace Machine

variable (s : State)

/-! ### Fields that an update leaves -/

@[simp] theorem State.setPort_porLow (h : HostId) (x : Port) : (s.setPort h x).porLow = s.porLow := rfl
@[simp] theorem State.setPort_freeCount (h : HostId) (x : Port) : (s.setPort h x).freeCount = s.freeCount := rfl
@[simp] theorem State.setPort_usage (h : HostId) (x : Port) : (s.setPort h x).usage = s.usage := rfl
@[simp] theorem State.setPort_lanes (h : HostId) (x : Port) : (s.setPort h x).lanes = s.lanes := rfl
@[simp] theorem State.setPort_banks (h : HostId) (x : Port) : (s.setPort h x).banks = s.banks := rfl
@[simp] theorem State.setPort_samplers (h : HostId) (x : Port) : (s.setPort h x).samplers = s.samplers := rfl
@[simp] theorem State.setPort_timers (h : HostId) (x : Port) : (s.setPort h x).timers = s.timers := rfl
@[simp] theorem State.setPort_chainDue (h : HostId) (x : Port) : (s.setPort h x).chainDue = s.chainDue := rfl
@[simp] theorem State.setPort_directPtr (h : HostId) (x : Port) : (s.setPort h x).directPtr = s.directPtr := rfl
@[simp] theorem State.setPort_lanePtr (h : HostId) (x : Port) : (s.setPort h x).lanePtr = s.lanePtr := rfl
@[simp] theorem State.setPort_direct (h : HostId) (x : Port) : (s.setPort h x).direct = s.direct := rfl
@[simp] theorem State.setPort_probe (h : HostId) (x : Port) : (s.setPort h x).probe = s.probe := rfl
@[simp] theorem State.setPort_exec (h : HostId) (x : Port) : (s.setPort h x).exec = s.exec := rfl
@[simp] theorem State.setPort_link (h : HostId) (x : Port) : (s.setPort h x).link = s.link := rfl
@[simp] theorem State.setPort_phaseLeft (h : HostId) (x : Port) : (s.setPort h x).phaseLeft = s.phaseLeft := rfl
@[simp] theorem State.setPort_segment (h : HostId) (x : Port) : (s.setPort h x).segment = s.segment := rfl
@[simp] theorem State.setPort_stations (h : HostId) (x : Port) : (s.setPort h x).stations = s.stations := rfl
@[simp] theorem State.setPort_faultAnnounced (h : HostId) (x : Port) : (s.setPort h x).faultAnnounced = s.faultAnnounced := rfl
@[simp] theorem State.setPort_disableWaiting (h : HostId) (x : Port) : (s.setPort h x).disableWaiting = s.disableWaiting := rfl
@[simp] theorem State.setPort_watchLeft (h : HostId) (x : Port) : (s.setPort h x).watchLeft = s.watchLeft := rfl
@[simp] theorem State.setPort_fda (h : HostId) (x : Port) : (s.setPort h x).fda = s.fda := rfl
@[simp] theorem State.setPort_mail (h : HostId) (x : Port) : (s.setPort h x).mail = s.mail := rfl
@[simp] theorem State.setPort_settings (h : HostId) (x : Port) : (s.setPort h x).settings = s.settings := rfl
@[simp] theorem State.setPort_lease (h : HostId) (x : Port) : (s.setPort h x).lease = s.lease := rfl
@[simp] theorem State.setPort_leaseLeft (h : HostId) (x : Port) : (s.setPort h x).leaseLeft = s.leaseLeft := rfl
@[simp] theorem State.setPort_timestamp (h : HostId) (x : Port) : (s.setPort h x).timestamp = s.timestamp := rfl
@[simp] theorem State.setPort_pending (h : HostId) (x : Port) : (s.setPort h x).pending = s.pending := rfl

@[simp] theorem State.setLane_porLow (l : LaneId) (x : Lane) : (s.setLane l x).porLow = s.porLow := rfl
@[simp] theorem State.setLane_ports (l : LaneId) (x : Lane) : (s.setLane l x).ports = s.ports := rfl
@[simp] theorem State.setLane_freeCount (l : LaneId) (x : Lane) : (s.setLane l x).freeCount = s.freeCount := rfl
@[simp] theorem State.setLane_usage (l : LaneId) (x : Lane) : (s.setLane l x).usage = s.usage := rfl
@[simp] theorem State.setLane_banks (l : LaneId) (x : Lane) : (s.setLane l x).banks = s.banks := rfl
@[simp] theorem State.setLane_samplers (l : LaneId) (x : Lane) : (s.setLane l x).samplers = s.samplers := rfl
@[simp] theorem State.setLane_timers (l : LaneId) (x : Lane) : (s.setLane l x).timers = s.timers := rfl
@[simp] theorem State.setLane_chainDue (l : LaneId) (x : Lane) : (s.setLane l x).chainDue = s.chainDue := rfl
@[simp] theorem State.setLane_directPtr (l : LaneId) (x : Lane) : (s.setLane l x).directPtr = s.directPtr := rfl
@[simp] theorem State.setLane_lanePtr (l : LaneId) (x : Lane) : (s.setLane l x).lanePtr = s.lanePtr := rfl
@[simp] theorem State.setLane_direct (l : LaneId) (x : Lane) : (s.setLane l x).direct = s.direct := rfl
@[simp] theorem State.setLane_probe (l : LaneId) (x : Lane) : (s.setLane l x).probe = s.probe := rfl
@[simp] theorem State.setLane_exec (l : LaneId) (x : Lane) : (s.setLane l x).exec = s.exec := rfl
@[simp] theorem State.setLane_link (l : LaneId) (x : Lane) : (s.setLane l x).link = s.link := rfl
@[simp] theorem State.setLane_phaseLeft (l : LaneId) (x : Lane) : (s.setLane l x).phaseLeft = s.phaseLeft := rfl
@[simp] theorem State.setLane_segment (l : LaneId) (x : Lane) : (s.setLane l x).segment = s.segment := rfl
@[simp] theorem State.setLane_stations (l : LaneId) (x : Lane) : (s.setLane l x).stations = s.stations := rfl
@[simp] theorem State.setLane_faultAnnounced (l : LaneId) (x : Lane) : (s.setLane l x).faultAnnounced = s.faultAnnounced := rfl
@[simp] theorem State.setLane_disableWaiting (l : LaneId) (x : Lane) : (s.setLane l x).disableWaiting = s.disableWaiting := rfl
@[simp] theorem State.setLane_watchLeft (l : LaneId) (x : Lane) : (s.setLane l x).watchLeft = s.watchLeft := rfl
@[simp] theorem State.setLane_fda (l : LaneId) (x : Lane) : (s.setLane l x).fda = s.fda := rfl
@[simp] theorem State.setLane_mail (l : LaneId) (x : Lane) : (s.setLane l x).mail = s.mail := rfl
@[simp] theorem State.setLane_settings (l : LaneId) (x : Lane) : (s.setLane l x).settings = s.settings := rfl
@[simp] theorem State.setLane_lease (l : LaneId) (x : Lane) : (s.setLane l x).lease = s.lease := rfl
@[simp] theorem State.setLane_leaseLeft (l : LaneId) (x : Lane) : (s.setLane l x).leaseLeft = s.leaseLeft := rfl
@[simp] theorem State.setLane_timestamp (l : LaneId) (x : Lane) : (s.setLane l x).timestamp = s.timestamp := rfl
@[simp] theorem State.setLane_pending (l : LaneId) (x : Lane) : (s.setLane l x).pending = s.pending := rfl

@[simp] theorem State.setBank_porLow (l : LaneId) (b : BankId) (x : Bank) : (s.setBank l b x).porLow = s.porLow := rfl
@[simp] theorem State.setBank_ports (l : LaneId) (b : BankId) (x : Bank) : (s.setBank l b x).ports = s.ports := rfl
@[simp] theorem State.setBank_freeCount (l : LaneId) (b : BankId) (x : Bank) : (s.setBank l b x).freeCount = s.freeCount := rfl
@[simp] theorem State.setBank_usage (l : LaneId) (b : BankId) (x : Bank) : (s.setBank l b x).usage = s.usage := rfl
@[simp] theorem State.setBank_lanes (l : LaneId) (b : BankId) (x : Bank) : (s.setBank l b x).lanes = s.lanes := rfl
@[simp] theorem State.setBank_samplers (l : LaneId) (b : BankId) (x : Bank) : (s.setBank l b x).samplers = s.samplers := rfl
@[simp] theorem State.setBank_timers (l : LaneId) (b : BankId) (x : Bank) : (s.setBank l b x).timers = s.timers := rfl
@[simp] theorem State.setBank_chainDue (l : LaneId) (b : BankId) (x : Bank) : (s.setBank l b x).chainDue = s.chainDue := rfl
@[simp] theorem State.setBank_directPtr (l : LaneId) (b : BankId) (x : Bank) : (s.setBank l b x).directPtr = s.directPtr := rfl
@[simp] theorem State.setBank_lanePtr (l : LaneId) (b : BankId) (x : Bank) : (s.setBank l b x).lanePtr = s.lanePtr := rfl
@[simp] theorem State.setBank_direct (l : LaneId) (b : BankId) (x : Bank) : (s.setBank l b x).direct = s.direct := rfl
@[simp] theorem State.setBank_probe (l : LaneId) (b : BankId) (x : Bank) : (s.setBank l b x).probe = s.probe := rfl
@[simp] theorem State.setBank_exec (l : LaneId) (b : BankId) (x : Bank) : (s.setBank l b x).exec = s.exec := rfl
@[simp] theorem State.setBank_link (l : LaneId) (b : BankId) (x : Bank) : (s.setBank l b x).link = s.link := rfl
@[simp] theorem State.setBank_phaseLeft (l : LaneId) (b : BankId) (x : Bank) : (s.setBank l b x).phaseLeft = s.phaseLeft := rfl
@[simp] theorem State.setBank_segment (l : LaneId) (b : BankId) (x : Bank) : (s.setBank l b x).segment = s.segment := rfl
@[simp] theorem State.setBank_stations (l : LaneId) (b : BankId) (x : Bank) : (s.setBank l b x).stations = s.stations := rfl
@[simp] theorem State.setBank_faultAnnounced (l : LaneId) (b : BankId) (x : Bank) : (s.setBank l b x).faultAnnounced = s.faultAnnounced := rfl
@[simp] theorem State.setBank_disableWaiting (l : LaneId) (b : BankId) (x : Bank) : (s.setBank l b x).disableWaiting = s.disableWaiting := rfl
@[simp] theorem State.setBank_watchLeft (l : LaneId) (b : BankId) (x : Bank) : (s.setBank l b x).watchLeft = s.watchLeft := rfl
@[simp] theorem State.setBank_fda (l : LaneId) (b : BankId) (x : Bank) : (s.setBank l b x).fda = s.fda := rfl
@[simp] theorem State.setBank_mail (l : LaneId) (b : BankId) (x : Bank) : (s.setBank l b x).mail = s.mail := rfl
@[simp] theorem State.setBank_settings (l : LaneId) (b : BankId) (x : Bank) : (s.setBank l b x).settings = s.settings := rfl
@[simp] theorem State.setBank_lease (l : LaneId) (b : BankId) (x : Bank) : (s.setBank l b x).lease = s.lease := rfl
@[simp] theorem State.setBank_leaseLeft (l : LaneId) (b : BankId) (x : Bank) : (s.setBank l b x).leaseLeft = s.leaseLeft := rfl
@[simp] theorem State.setBank_timestamp (l : LaneId) (b : BankId) (x : Bank) : (s.setBank l b x).timestamp = s.timestamp := rfl
@[simp] theorem State.setBank_pending (l : LaneId) (b : BankId) (x : Bank) : (s.setBank l b x).pending = s.pending := rfl

@[simp] theorem State.setMailbox_porLow (h : HostId) (x : Mailbox) : (s.setMailbox h x).porLow = s.porLow := rfl
@[simp] theorem State.setMailbox_ports (h : HostId) (x : Mailbox) : (s.setMailbox h x).ports = s.ports := rfl
@[simp] theorem State.setMailbox_freeCount (h : HostId) (x : Mailbox) : (s.setMailbox h x).freeCount = s.freeCount := rfl
@[simp] theorem State.setMailbox_usage (h : HostId) (x : Mailbox) : (s.setMailbox h x).usage = s.usage := rfl
@[simp] theorem State.setMailbox_lanes (h : HostId) (x : Mailbox) : (s.setMailbox h x).lanes = s.lanes := rfl
@[simp] theorem State.setMailbox_banks (h : HostId) (x : Mailbox) : (s.setMailbox h x).banks = s.banks := rfl
@[simp] theorem State.setMailbox_samplers (h : HostId) (x : Mailbox) : (s.setMailbox h x).samplers = s.samplers := rfl
@[simp] theorem State.setMailbox_timers (h : HostId) (x : Mailbox) : (s.setMailbox h x).timers = s.timers := rfl
@[simp] theorem State.setMailbox_chainDue (h : HostId) (x : Mailbox) : (s.setMailbox h x).chainDue = s.chainDue := rfl
@[simp] theorem State.setMailbox_directPtr (h : HostId) (x : Mailbox) : (s.setMailbox h x).directPtr = s.directPtr := rfl
@[simp] theorem State.setMailbox_lanePtr (h : HostId) (x : Mailbox) : (s.setMailbox h x).lanePtr = s.lanePtr := rfl
@[simp] theorem State.setMailbox_direct (h : HostId) (x : Mailbox) : (s.setMailbox h x).direct = s.direct := rfl
@[simp] theorem State.setMailbox_probe (h : HostId) (x : Mailbox) : (s.setMailbox h x).probe = s.probe := rfl
@[simp] theorem State.setMailbox_exec (h : HostId) (x : Mailbox) : (s.setMailbox h x).exec = s.exec := rfl
@[simp] theorem State.setMailbox_link (h : HostId) (x : Mailbox) : (s.setMailbox h x).link = s.link := rfl
@[simp] theorem State.setMailbox_phaseLeft (h : HostId) (x : Mailbox) : (s.setMailbox h x).phaseLeft = s.phaseLeft := rfl
@[simp] theorem State.setMailbox_segment (h : HostId) (x : Mailbox) : (s.setMailbox h x).segment = s.segment := rfl
@[simp] theorem State.setMailbox_stations (h : HostId) (x : Mailbox) : (s.setMailbox h x).stations = s.stations := rfl
@[simp] theorem State.setMailbox_faultAnnounced (h : HostId) (x : Mailbox) : (s.setMailbox h x).faultAnnounced = s.faultAnnounced := rfl
@[simp] theorem State.setMailbox_disableWaiting (h : HostId) (x : Mailbox) : (s.setMailbox h x).disableWaiting = s.disableWaiting := rfl
@[simp] theorem State.setMailbox_watchLeft (h : HostId) (x : Mailbox) : (s.setMailbox h x).watchLeft = s.watchLeft := rfl
@[simp] theorem State.setMailbox_fda (h : HostId) (x : Mailbox) : (s.setMailbox h x).fda = s.fda := rfl
@[simp] theorem State.setMailbox_settings (h : HostId) (x : Mailbox) : (s.setMailbox h x).settings = s.settings := rfl
@[simp] theorem State.setMailbox_lease (h : HostId) (x : Mailbox) : (s.setMailbox h x).lease = s.lease := rfl
@[simp] theorem State.setMailbox_leaseLeft (h : HostId) (x : Mailbox) : (s.setMailbox h x).leaseLeft = s.leaseLeft := rfl
@[simp] theorem State.setMailbox_timestamp (h : HostId) (x : Mailbox) : (s.setMailbox h x).timestamp = s.timestamp := rfl
@[simp] theorem State.setMailbox_pending (h : HostId) (x : Mailbox) : (s.setMailbox h x).pending = s.pending := rfl

@[simp] theorem State.setStation_porLow (g : SegmentId) (n : StationId) (x : Station) : (s.setStation g n x).porLow = s.porLow := rfl
@[simp] theorem State.setStation_ports (g : SegmentId) (n : StationId) (x : Station) : (s.setStation g n x).ports = s.ports := rfl
@[simp] theorem State.setStation_freeCount (g : SegmentId) (n : StationId) (x : Station) : (s.setStation g n x).freeCount = s.freeCount := rfl
@[simp] theorem State.setStation_usage (g : SegmentId) (n : StationId) (x : Station) : (s.setStation g n x).usage = s.usage := rfl
@[simp] theorem State.setStation_lanes (g : SegmentId) (n : StationId) (x : Station) : (s.setStation g n x).lanes = s.lanes := rfl
@[simp] theorem State.setStation_banks (g : SegmentId) (n : StationId) (x : Station) : (s.setStation g n x).banks = s.banks := rfl
@[simp] theorem State.setStation_samplers (g : SegmentId) (n : StationId) (x : Station) : (s.setStation g n x).samplers = s.samplers := rfl
@[simp] theorem State.setStation_timers (g : SegmentId) (n : StationId) (x : Station) : (s.setStation g n x).timers = s.timers := rfl
@[simp] theorem State.setStation_chainDue (g : SegmentId) (n : StationId) (x : Station) : (s.setStation g n x).chainDue = s.chainDue := rfl
@[simp] theorem State.setStation_directPtr (g : SegmentId) (n : StationId) (x : Station) : (s.setStation g n x).directPtr = s.directPtr := rfl
@[simp] theorem State.setStation_lanePtr (g : SegmentId) (n : StationId) (x : Station) : (s.setStation g n x).lanePtr = s.lanePtr := rfl
@[simp] theorem State.setStation_direct (g : SegmentId) (n : StationId) (x : Station) : (s.setStation g n x).direct = s.direct := rfl
@[simp] theorem State.setStation_probe (g : SegmentId) (n : StationId) (x : Station) : (s.setStation g n x).probe = s.probe := rfl
@[simp] theorem State.setStation_exec (g : SegmentId) (n : StationId) (x : Station) : (s.setStation g n x).exec = s.exec := rfl
@[simp] theorem State.setStation_link (g : SegmentId) (n : StationId) (x : Station) : (s.setStation g n x).link = s.link := rfl
@[simp] theorem State.setStation_phaseLeft (g : SegmentId) (n : StationId) (x : Station) : (s.setStation g n x).phaseLeft = s.phaseLeft := rfl
@[simp] theorem State.setStation_segment (g : SegmentId) (n : StationId) (x : Station) : (s.setStation g n x).segment = s.segment := rfl
@[simp] theorem State.setStation_faultAnnounced (g : SegmentId) (n : StationId) (x : Station) : (s.setStation g n x).faultAnnounced = s.faultAnnounced := rfl
@[simp] theorem State.setStation_disableWaiting (g : SegmentId) (n : StationId) (x : Station) : (s.setStation g n x).disableWaiting = s.disableWaiting := rfl
@[simp] theorem State.setStation_watchLeft (g : SegmentId) (n : StationId) (x : Station) : (s.setStation g n x).watchLeft = s.watchLeft := rfl
@[simp] theorem State.setStation_fda (g : SegmentId) (n : StationId) (x : Station) : (s.setStation g n x).fda = s.fda := rfl
@[simp] theorem State.setStation_mail (g : SegmentId) (n : StationId) (x : Station) : (s.setStation g n x).mail = s.mail := rfl
@[simp] theorem State.setStation_settings (g : SegmentId) (n : StationId) (x : Station) : (s.setStation g n x).settings = s.settings := rfl
@[simp] theorem State.setStation_lease (g : SegmentId) (n : StationId) (x : Station) : (s.setStation g n x).lease = s.lease := rfl
@[simp] theorem State.setStation_leaseLeft (g : SegmentId) (n : StationId) (x : Station) : (s.setStation g n x).leaseLeft = s.leaseLeft := rfl
@[simp] theorem State.setStation_timestamp (g : SegmentId) (n : StationId) (x : Station) : (s.setStation g n x).timestamp = s.timestamp := rfl
@[simp] theorem State.setStation_pending (g : SegmentId) (n : StationId) (x : Station) : (s.setStation g n x).pending = s.pending := rfl

@[simp] theorem State.setDirectQueue_porLow (h : HostId) (x : List DirectRequest) : (s.setDirectQueue h x).porLow = s.porLow := rfl
@[simp] theorem State.setDirectQueue_ports (h : HostId) (x : List DirectRequest) : (s.setDirectQueue h x).ports = s.ports := rfl
@[simp] theorem State.setDirectQueue_freeCount (h : HostId) (x : List DirectRequest) : (s.setDirectQueue h x).freeCount = s.freeCount := rfl
@[simp] theorem State.setDirectQueue_usage (h : HostId) (x : List DirectRequest) : (s.setDirectQueue h x).usage = s.usage := rfl
@[simp] theorem State.setDirectQueue_lanes (h : HostId) (x : List DirectRequest) : (s.setDirectQueue h x).lanes = s.lanes := rfl
@[simp] theorem State.setDirectQueue_banks (h : HostId) (x : List DirectRequest) : (s.setDirectQueue h x).banks = s.banks := rfl
@[simp] theorem State.setDirectQueue_samplers (h : HostId) (x : List DirectRequest) : (s.setDirectQueue h x).samplers = s.samplers := rfl
@[simp] theorem State.setDirectQueue_timers (h : HostId) (x : List DirectRequest) : (s.setDirectQueue h x).timers = s.timers := rfl
@[simp] theorem State.setDirectQueue_chainDue (h : HostId) (x : List DirectRequest) : (s.setDirectQueue h x).chainDue = s.chainDue := rfl
@[simp] theorem State.setDirectQueue_directPtr (h : HostId) (x : List DirectRequest) : (s.setDirectQueue h x).directPtr = s.directPtr := rfl
@[simp] theorem State.setDirectQueue_lanePtr (h : HostId) (x : List DirectRequest) : (s.setDirectQueue h x).lanePtr = s.lanePtr := rfl
@[simp] theorem State.setDirectQueue_probe (h : HostId) (x : List DirectRequest) : (s.setDirectQueue h x).probe = s.probe := rfl
@[simp] theorem State.setDirectQueue_exec (h : HostId) (x : List DirectRequest) : (s.setDirectQueue h x).exec = s.exec := rfl
@[simp] theorem State.setDirectQueue_link (h : HostId) (x : List DirectRequest) : (s.setDirectQueue h x).link = s.link := rfl
@[simp] theorem State.setDirectQueue_phaseLeft (h : HostId) (x : List DirectRequest) : (s.setDirectQueue h x).phaseLeft = s.phaseLeft := rfl
@[simp] theorem State.setDirectQueue_segment (h : HostId) (x : List DirectRequest) : (s.setDirectQueue h x).segment = s.segment := rfl
@[simp] theorem State.setDirectQueue_stations (h : HostId) (x : List DirectRequest) : (s.setDirectQueue h x).stations = s.stations := rfl
@[simp] theorem State.setDirectQueue_faultAnnounced (h : HostId) (x : List DirectRequest) : (s.setDirectQueue h x).faultAnnounced = s.faultAnnounced := rfl
@[simp] theorem State.setDirectQueue_disableWaiting (h : HostId) (x : List DirectRequest) : (s.setDirectQueue h x).disableWaiting = s.disableWaiting := rfl
@[simp] theorem State.setDirectQueue_watchLeft (h : HostId) (x : List DirectRequest) : (s.setDirectQueue h x).watchLeft = s.watchLeft := rfl
@[simp] theorem State.setDirectQueue_fda (h : HostId) (x : List DirectRequest) : (s.setDirectQueue h x).fda = s.fda := rfl
@[simp] theorem State.setDirectQueue_mail (h : HostId) (x : List DirectRequest) : (s.setDirectQueue h x).mail = s.mail := rfl
@[simp] theorem State.setDirectQueue_settings (h : HostId) (x : List DirectRequest) : (s.setDirectQueue h x).settings = s.settings := rfl
@[simp] theorem State.setDirectQueue_lease (h : HostId) (x : List DirectRequest) : (s.setDirectQueue h x).lease = s.lease := rfl
@[simp] theorem State.setDirectQueue_leaseLeft (h : HostId) (x : List DirectRequest) : (s.setDirectQueue h x).leaseLeft = s.leaseLeft := rfl
@[simp] theorem State.setDirectQueue_timestamp (h : HostId) (x : List DirectRequest) : (s.setDirectQueue h x).timestamp = s.timestamp := rfl
@[simp] theorem State.setDirectQueue_pending (h : HostId) (x : List DirectRequest) : (s.setDirectQueue h x).pending = s.pending := rfl

@[simp] theorem State.setTimer_porLow (t : Fin 4) (x : IntervalTimer) : (s.setTimer t x).porLow = s.porLow := rfl
@[simp] theorem State.setTimer_ports (t : Fin 4) (x : IntervalTimer) : (s.setTimer t x).ports = s.ports := rfl
@[simp] theorem State.setTimer_freeCount (t : Fin 4) (x : IntervalTimer) : (s.setTimer t x).freeCount = s.freeCount := rfl
@[simp] theorem State.setTimer_usage (t : Fin 4) (x : IntervalTimer) : (s.setTimer t x).usage = s.usage := rfl
@[simp] theorem State.setTimer_lanes (t : Fin 4) (x : IntervalTimer) : (s.setTimer t x).lanes = s.lanes := rfl
@[simp] theorem State.setTimer_banks (t : Fin 4) (x : IntervalTimer) : (s.setTimer t x).banks = s.banks := rfl
@[simp] theorem State.setTimer_samplers (t : Fin 4) (x : IntervalTimer) : (s.setTimer t x).samplers = s.samplers := rfl
@[simp] theorem State.setTimer_chainDue (t : Fin 4) (x : IntervalTimer) : (s.setTimer t x).chainDue = s.chainDue := rfl
@[simp] theorem State.setTimer_directPtr (t : Fin 4) (x : IntervalTimer) : (s.setTimer t x).directPtr = s.directPtr := rfl
@[simp] theorem State.setTimer_lanePtr (t : Fin 4) (x : IntervalTimer) : (s.setTimer t x).lanePtr = s.lanePtr := rfl
@[simp] theorem State.setTimer_direct (t : Fin 4) (x : IntervalTimer) : (s.setTimer t x).direct = s.direct := rfl
@[simp] theorem State.setTimer_probe (t : Fin 4) (x : IntervalTimer) : (s.setTimer t x).probe = s.probe := rfl
@[simp] theorem State.setTimer_exec (t : Fin 4) (x : IntervalTimer) : (s.setTimer t x).exec = s.exec := rfl
@[simp] theorem State.setTimer_link (t : Fin 4) (x : IntervalTimer) : (s.setTimer t x).link = s.link := rfl
@[simp] theorem State.setTimer_phaseLeft (t : Fin 4) (x : IntervalTimer) : (s.setTimer t x).phaseLeft = s.phaseLeft := rfl
@[simp] theorem State.setTimer_segment (t : Fin 4) (x : IntervalTimer) : (s.setTimer t x).segment = s.segment := rfl
@[simp] theorem State.setTimer_stations (t : Fin 4) (x : IntervalTimer) : (s.setTimer t x).stations = s.stations := rfl
@[simp] theorem State.setTimer_faultAnnounced (t : Fin 4) (x : IntervalTimer) : (s.setTimer t x).faultAnnounced = s.faultAnnounced := rfl
@[simp] theorem State.setTimer_disableWaiting (t : Fin 4) (x : IntervalTimer) : (s.setTimer t x).disableWaiting = s.disableWaiting := rfl
@[simp] theorem State.setTimer_watchLeft (t : Fin 4) (x : IntervalTimer) : (s.setTimer t x).watchLeft = s.watchLeft := rfl
@[simp] theorem State.setTimer_fda (t : Fin 4) (x : IntervalTimer) : (s.setTimer t x).fda = s.fda := rfl
@[simp] theorem State.setTimer_mail (t : Fin 4) (x : IntervalTimer) : (s.setTimer t x).mail = s.mail := rfl
@[simp] theorem State.setTimer_settings (t : Fin 4) (x : IntervalTimer) : (s.setTimer t x).settings = s.settings := rfl
@[simp] theorem State.setTimer_lease (t : Fin 4) (x : IntervalTimer) : (s.setTimer t x).lease = s.lease := rfl
@[simp] theorem State.setTimer_leaseLeft (t : Fin 4) (x : IntervalTimer) : (s.setTimer t x).leaseLeft = s.leaseLeft := rfl
@[simp] theorem State.setTimer_timestamp (t : Fin 4) (x : IntervalTimer) : (s.setTimer t x).timestamp = s.timestamp := rfl
@[simp] theorem State.setTimer_pending (t : Fin 4) (x : IntervalTimer) : (s.setTimer t x).pending = s.pending := rfl

@[simp] theorem State.placeSteps_porLow (h : HostId) (k : Nat) : (s.placeSteps h k).porLow = s.porLow := rfl
@[simp] theorem State.placeSteps_ports (h : HostId) (k : Nat) : (s.placeSteps h k).ports = s.ports := rfl
@[simp] theorem State.placeSteps_lanes (h : HostId) (k : Nat) : (s.placeSteps h k).lanes = s.lanes := rfl
@[simp] theorem State.placeSteps_banks (h : HostId) (k : Nat) : (s.placeSteps h k).banks = s.banks := rfl
@[simp] theorem State.placeSteps_samplers (h : HostId) (k : Nat) : (s.placeSteps h k).samplers = s.samplers := rfl
@[simp] theorem State.placeSteps_timers (h : HostId) (k : Nat) : (s.placeSteps h k).timers = s.timers := rfl
@[simp] theorem State.placeSteps_chainDue (h : HostId) (k : Nat) : (s.placeSteps h k).chainDue = s.chainDue := rfl
@[simp] theorem State.placeSteps_directPtr (h : HostId) (k : Nat) : (s.placeSteps h k).directPtr = s.directPtr := rfl
@[simp] theorem State.placeSteps_lanePtr (h : HostId) (k : Nat) : (s.placeSteps h k).lanePtr = s.lanePtr := rfl
@[simp] theorem State.placeSteps_direct (h : HostId) (k : Nat) : (s.placeSteps h k).direct = s.direct := rfl
@[simp] theorem State.placeSteps_probe (h : HostId) (k : Nat) : (s.placeSteps h k).probe = s.probe := rfl
@[simp] theorem State.placeSteps_exec (h : HostId) (k : Nat) : (s.placeSteps h k).exec = s.exec := rfl
@[simp] theorem State.placeSteps_link (h : HostId) (k : Nat) : (s.placeSteps h k).link = s.link := rfl
@[simp] theorem State.placeSteps_phaseLeft (h : HostId) (k : Nat) : (s.placeSteps h k).phaseLeft = s.phaseLeft := rfl
@[simp] theorem State.placeSteps_segment (h : HostId) (k : Nat) : (s.placeSteps h k).segment = s.segment := rfl
@[simp] theorem State.placeSteps_stations (h : HostId) (k : Nat) : (s.placeSteps h k).stations = s.stations := rfl
@[simp] theorem State.placeSteps_faultAnnounced (h : HostId) (k : Nat) : (s.placeSteps h k).faultAnnounced = s.faultAnnounced := rfl
@[simp] theorem State.placeSteps_disableWaiting (h : HostId) (k : Nat) : (s.placeSteps h k).disableWaiting = s.disableWaiting := rfl
@[simp] theorem State.placeSteps_watchLeft (h : HostId) (k : Nat) : (s.placeSteps h k).watchLeft = s.watchLeft := rfl
@[simp] theorem State.placeSteps_fda (h : HostId) (k : Nat) : (s.placeSteps h k).fda = s.fda := rfl
@[simp] theorem State.placeSteps_mail (h : HostId) (k : Nat) : (s.placeSteps h k).mail = s.mail := rfl
@[simp] theorem State.placeSteps_settings (h : HostId) (k : Nat) : (s.placeSteps h k).settings = s.settings := rfl
@[simp] theorem State.placeSteps_lease (h : HostId) (k : Nat) : (s.placeSteps h k).lease = s.lease := rfl
@[simp] theorem State.placeSteps_leaseLeft (h : HostId) (k : Nat) : (s.placeSteps h k).leaseLeft = s.leaseLeft := rfl
@[simp] theorem State.placeSteps_timestamp (h : HostId) (k : Nat) : (s.placeSteps h k).timestamp = s.timestamp := rfl
@[simp] theorem State.placeSteps_pending (h : HostId) (k : Nat) : (s.placeSteps h k).pending = s.pending := rfl

@[simp] theorem State.freeSteps_porLow (h : HostId) (k : Nat) : (s.freeSteps h k).porLow = s.porLow := rfl
@[simp] theorem State.freeSteps_ports (h : HostId) (k : Nat) : (s.freeSteps h k).ports = s.ports := rfl
@[simp] theorem State.freeSteps_lanes (h : HostId) (k : Nat) : (s.freeSteps h k).lanes = s.lanes := rfl
@[simp] theorem State.freeSteps_banks (h : HostId) (k : Nat) : (s.freeSteps h k).banks = s.banks := rfl
@[simp] theorem State.freeSteps_samplers (h : HostId) (k : Nat) : (s.freeSteps h k).samplers = s.samplers := rfl
@[simp] theorem State.freeSteps_timers (h : HostId) (k : Nat) : (s.freeSteps h k).timers = s.timers := rfl
@[simp] theorem State.freeSteps_chainDue (h : HostId) (k : Nat) : (s.freeSteps h k).chainDue = s.chainDue := rfl
@[simp] theorem State.freeSteps_directPtr (h : HostId) (k : Nat) : (s.freeSteps h k).directPtr = s.directPtr := rfl
@[simp] theorem State.freeSteps_lanePtr (h : HostId) (k : Nat) : (s.freeSteps h k).lanePtr = s.lanePtr := rfl
@[simp] theorem State.freeSteps_direct (h : HostId) (k : Nat) : (s.freeSteps h k).direct = s.direct := rfl
@[simp] theorem State.freeSteps_probe (h : HostId) (k : Nat) : (s.freeSteps h k).probe = s.probe := rfl
@[simp] theorem State.freeSteps_exec (h : HostId) (k : Nat) : (s.freeSteps h k).exec = s.exec := rfl
@[simp] theorem State.freeSteps_link (h : HostId) (k : Nat) : (s.freeSteps h k).link = s.link := rfl
@[simp] theorem State.freeSteps_phaseLeft (h : HostId) (k : Nat) : (s.freeSteps h k).phaseLeft = s.phaseLeft := rfl
@[simp] theorem State.freeSteps_segment (h : HostId) (k : Nat) : (s.freeSteps h k).segment = s.segment := rfl
@[simp] theorem State.freeSteps_stations (h : HostId) (k : Nat) : (s.freeSteps h k).stations = s.stations := rfl
@[simp] theorem State.freeSteps_faultAnnounced (h : HostId) (k : Nat) : (s.freeSteps h k).faultAnnounced = s.faultAnnounced := rfl
@[simp] theorem State.freeSteps_disableWaiting (h : HostId) (k : Nat) : (s.freeSteps h k).disableWaiting = s.disableWaiting := rfl
@[simp] theorem State.freeSteps_watchLeft (h : HostId) (k : Nat) : (s.freeSteps h k).watchLeft = s.watchLeft := rfl
@[simp] theorem State.freeSteps_fda (h : HostId) (k : Nat) : (s.freeSteps h k).fda = s.fda := rfl
@[simp] theorem State.freeSteps_mail (h : HostId) (k : Nat) : (s.freeSteps h k).mail = s.mail := rfl
@[simp] theorem State.freeSteps_settings (h : HostId) (k : Nat) : (s.freeSteps h k).settings = s.settings := rfl
@[simp] theorem State.freeSteps_lease (h : HostId) (k : Nat) : (s.freeSteps h k).lease = s.lease := rfl
@[simp] theorem State.freeSteps_leaseLeft (h : HostId) (k : Nat) : (s.freeSteps h k).leaseLeft = s.leaseLeft := rfl
@[simp] theorem State.freeSteps_timestamp (h : HostId) (k : Nat) : (s.freeSteps h k).timestamp = s.timestamp := rfl
@[simp] theorem State.freeSteps_pending (h : HostId) (k : Nat) : (s.freeSteps h k).pending = s.pending := rfl

@[simp] theorem State.gainUsage_porLow (h : HostId) (k : Nat) : (s.gainUsage h k).porLow = s.porLow := rfl
@[simp] theorem State.gainUsage_ports (h : HostId) (k : Nat) : (s.gainUsage h k).ports = s.ports := rfl
@[simp] theorem State.gainUsage_freeCount (h : HostId) (k : Nat) : (s.gainUsage h k).freeCount = s.freeCount := rfl
@[simp] theorem State.gainUsage_lanes (h : HostId) (k : Nat) : (s.gainUsage h k).lanes = s.lanes := rfl
@[simp] theorem State.gainUsage_banks (h : HostId) (k : Nat) : (s.gainUsage h k).banks = s.banks := rfl
@[simp] theorem State.gainUsage_samplers (h : HostId) (k : Nat) : (s.gainUsage h k).samplers = s.samplers := rfl
@[simp] theorem State.gainUsage_timers (h : HostId) (k : Nat) : (s.gainUsage h k).timers = s.timers := rfl
@[simp] theorem State.gainUsage_chainDue (h : HostId) (k : Nat) : (s.gainUsage h k).chainDue = s.chainDue := rfl
@[simp] theorem State.gainUsage_directPtr (h : HostId) (k : Nat) : (s.gainUsage h k).directPtr = s.directPtr := rfl
@[simp] theorem State.gainUsage_lanePtr (h : HostId) (k : Nat) : (s.gainUsage h k).lanePtr = s.lanePtr := rfl
@[simp] theorem State.gainUsage_direct (h : HostId) (k : Nat) : (s.gainUsage h k).direct = s.direct := rfl
@[simp] theorem State.gainUsage_probe (h : HostId) (k : Nat) : (s.gainUsage h k).probe = s.probe := rfl
@[simp] theorem State.gainUsage_exec (h : HostId) (k : Nat) : (s.gainUsage h k).exec = s.exec := rfl
@[simp] theorem State.gainUsage_link (h : HostId) (k : Nat) : (s.gainUsage h k).link = s.link := rfl
@[simp] theorem State.gainUsage_phaseLeft (h : HostId) (k : Nat) : (s.gainUsage h k).phaseLeft = s.phaseLeft := rfl
@[simp] theorem State.gainUsage_segment (h : HostId) (k : Nat) : (s.gainUsage h k).segment = s.segment := rfl
@[simp] theorem State.gainUsage_stations (h : HostId) (k : Nat) : (s.gainUsage h k).stations = s.stations := rfl
@[simp] theorem State.gainUsage_faultAnnounced (h : HostId) (k : Nat) : (s.gainUsage h k).faultAnnounced = s.faultAnnounced := rfl
@[simp] theorem State.gainUsage_disableWaiting (h : HostId) (k : Nat) : (s.gainUsage h k).disableWaiting = s.disableWaiting := rfl
@[simp] theorem State.gainUsage_watchLeft (h : HostId) (k : Nat) : (s.gainUsage h k).watchLeft = s.watchLeft := rfl
@[simp] theorem State.gainUsage_fda (h : HostId) (k : Nat) : (s.gainUsage h k).fda = s.fda := rfl
@[simp] theorem State.gainUsage_mail (h : HostId) (k : Nat) : (s.gainUsage h k).mail = s.mail := rfl
@[simp] theorem State.gainUsage_settings (h : HostId) (k : Nat) : (s.gainUsage h k).settings = s.settings := rfl
@[simp] theorem State.gainUsage_lease (h : HostId) (k : Nat) : (s.gainUsage h k).lease = s.lease := rfl
@[simp] theorem State.gainUsage_leaseLeft (h : HostId) (k : Nat) : (s.gainUsage h k).leaseLeft = s.leaseLeft := rfl
@[simp] theorem State.gainUsage_timestamp (h : HostId) (k : Nat) : (s.gainUsage h k).timestamp = s.timestamp := rfl
@[simp] theorem State.gainUsage_pending (h : HostId) (k : Nat) : (s.gainUsage h k).pending = s.pending := rfl

@[simp] theorem State.loseUsage_porLow (h : HostId) (k : Nat) : (s.loseUsage h k).porLow = s.porLow := rfl
@[simp] theorem State.loseUsage_ports (h : HostId) (k : Nat) : (s.loseUsage h k).ports = s.ports := rfl
@[simp] theorem State.loseUsage_freeCount (h : HostId) (k : Nat) : (s.loseUsage h k).freeCount = s.freeCount := rfl
@[simp] theorem State.loseUsage_lanes (h : HostId) (k : Nat) : (s.loseUsage h k).lanes = s.lanes := rfl
@[simp] theorem State.loseUsage_banks (h : HostId) (k : Nat) : (s.loseUsage h k).banks = s.banks := rfl
@[simp] theorem State.loseUsage_samplers (h : HostId) (k : Nat) : (s.loseUsage h k).samplers = s.samplers := rfl
@[simp] theorem State.loseUsage_timers (h : HostId) (k : Nat) : (s.loseUsage h k).timers = s.timers := rfl
@[simp] theorem State.loseUsage_chainDue (h : HostId) (k : Nat) : (s.loseUsage h k).chainDue = s.chainDue := rfl
@[simp] theorem State.loseUsage_directPtr (h : HostId) (k : Nat) : (s.loseUsage h k).directPtr = s.directPtr := rfl
@[simp] theorem State.loseUsage_lanePtr (h : HostId) (k : Nat) : (s.loseUsage h k).lanePtr = s.lanePtr := rfl
@[simp] theorem State.loseUsage_direct (h : HostId) (k : Nat) : (s.loseUsage h k).direct = s.direct := rfl
@[simp] theorem State.loseUsage_probe (h : HostId) (k : Nat) : (s.loseUsage h k).probe = s.probe := rfl
@[simp] theorem State.loseUsage_exec (h : HostId) (k : Nat) : (s.loseUsage h k).exec = s.exec := rfl
@[simp] theorem State.loseUsage_link (h : HostId) (k : Nat) : (s.loseUsage h k).link = s.link := rfl
@[simp] theorem State.loseUsage_phaseLeft (h : HostId) (k : Nat) : (s.loseUsage h k).phaseLeft = s.phaseLeft := rfl
@[simp] theorem State.loseUsage_segment (h : HostId) (k : Nat) : (s.loseUsage h k).segment = s.segment := rfl
@[simp] theorem State.loseUsage_stations (h : HostId) (k : Nat) : (s.loseUsage h k).stations = s.stations := rfl
@[simp] theorem State.loseUsage_faultAnnounced (h : HostId) (k : Nat) : (s.loseUsage h k).faultAnnounced = s.faultAnnounced := rfl
@[simp] theorem State.loseUsage_disableWaiting (h : HostId) (k : Nat) : (s.loseUsage h k).disableWaiting = s.disableWaiting := rfl
@[simp] theorem State.loseUsage_watchLeft (h : HostId) (k : Nat) : (s.loseUsage h k).watchLeft = s.watchLeft := rfl
@[simp] theorem State.loseUsage_fda (h : HostId) (k : Nat) : (s.loseUsage h k).fda = s.fda := rfl
@[simp] theorem State.loseUsage_mail (h : HostId) (k : Nat) : (s.loseUsage h k).mail = s.mail := rfl
@[simp] theorem State.loseUsage_settings (h : HostId) (k : Nat) : (s.loseUsage h k).settings = s.settings := rfl
@[simp] theorem State.loseUsage_lease (h : HostId) (k : Nat) : (s.loseUsage h k).lease = s.lease := rfl
@[simp] theorem State.loseUsage_leaseLeft (h : HostId) (k : Nat) : (s.loseUsage h k).leaseLeft = s.leaseLeft := rfl
@[simp] theorem State.loseUsage_timestamp (h : HostId) (k : Nat) : (s.loseUsage h k).timestamp = s.timestamp := rfl
@[simp] theorem State.loseUsage_pending (h : HostId) (k : Nat) : (s.loseUsage h k).pending = s.pending := rfl

/-! ### Entries that an update leaves -/

@[simp] theorem State.lane_setPort (h : HostId) (x : Port) (i : LaneId) : (s.setPort h x).lane i = s.lane i := rfl
@[simp] theorem State.bank_setPort (h : HostId) (x : Port) (i : LaneId) (j : BankId) : (s.setPort h x).bank i j = s.bank i j := rfl
@[simp] theorem State.mailbox_setPort (h : HostId) (x : Port) (i : HostId) : (s.setPort h x).mailbox i = s.mailbox i := rfl
@[simp] theorem State.station_setPort (h : HostId) (x : Port) (i : SegmentId) (j : StationId) : (s.setPort h x).station i j = s.station i j := rfl
@[simp] theorem State.directQueue_setPort (h : HostId) (x : Port) (i : HostId) : (s.setPort h x).directQueue i = s.directQueue i := rfl
@[simp] theorem State.timer_setPort (h : HostId) (x : Port) (i : Fin 4) : (s.setPort h x).timer i = s.timer i := rfl
@[simp] theorem State.usageOf_setPort (h : HostId) (x : Port) (i : HostId) : (s.setPort h x).usageOf i = s.usageOf i := rfl
@[simp] theorem State.quotaOf_setPort (h : HostId) (x : Port) (i : HostId) : (s.setPort h x).quotaOf i = s.quotaOf i := rfl

@[simp] theorem State.port_setLane (l : LaneId) (x : Lane) (i : HostId) : (s.setLane l x).port i = s.port i := rfl
@[simp] theorem State.bank_setLane (l : LaneId) (x : Lane) (i : LaneId) (j : BankId) : (s.setLane l x).bank i j = s.bank i j := rfl
@[simp] theorem State.mailbox_setLane (l : LaneId) (x : Lane) (i : HostId) : (s.setLane l x).mailbox i = s.mailbox i := rfl
@[simp] theorem State.station_setLane (l : LaneId) (x : Lane) (i : SegmentId) (j : StationId) : (s.setLane l x).station i j = s.station i j := rfl
@[simp] theorem State.directQueue_setLane (l : LaneId) (x : Lane) (i : HostId) : (s.setLane l x).directQueue i = s.directQueue i := rfl
@[simp] theorem State.timer_setLane (l : LaneId) (x : Lane) (i : Fin 4) : (s.setLane l x).timer i = s.timer i := rfl
@[simp] theorem State.usageOf_setLane (l : LaneId) (x : Lane) (i : HostId) : (s.setLane l x).usageOf i = s.usageOf i := rfl
@[simp] theorem State.quotaOf_setLane (l : LaneId) (x : Lane) (i : HostId) : (s.setLane l x).quotaOf i = s.quotaOf i := rfl
@[simp] theorem State.inReset_setLane (l : LaneId) (x : Lane) (i : HostId) : (s.setLane l x).inReset i = s.inReset i := rfl

@[simp] theorem State.port_setBank (l : LaneId) (b : BankId) (x : Bank) (i : HostId) : (s.setBank l b x).port i = s.port i := rfl
@[simp] theorem State.lane_setBank (l : LaneId) (b : BankId) (x : Bank) (i : LaneId) : (s.setBank l b x).lane i = s.lane i := rfl
@[simp] theorem State.mailbox_setBank (l : LaneId) (b : BankId) (x : Bank) (i : HostId) : (s.setBank l b x).mailbox i = s.mailbox i := rfl
@[simp] theorem State.station_setBank (l : LaneId) (b : BankId) (x : Bank) (i : SegmentId) (j : StationId) : (s.setBank l b x).station i j = s.station i j := rfl
@[simp] theorem State.directQueue_setBank (l : LaneId) (b : BankId) (x : Bank) (i : HostId) : (s.setBank l b x).directQueue i = s.directQueue i := rfl
@[simp] theorem State.timer_setBank (l : LaneId) (b : BankId) (x : Bank) (i : Fin 4) : (s.setBank l b x).timer i = s.timer i := rfl
@[simp] theorem State.usageOf_setBank (l : LaneId) (b : BankId) (x : Bank) (i : HostId) : (s.setBank l b x).usageOf i = s.usageOf i := rfl
@[simp] theorem State.quotaOf_setBank (l : LaneId) (b : BankId) (x : Bank) (i : HostId) : (s.setBank l b x).quotaOf i = s.quotaOf i := rfl
@[simp] theorem State.inReset_setBank (l : LaneId) (b : BankId) (x : Bank) (i : HostId) : (s.setBank l b x).inReset i = s.inReset i := rfl

@[simp] theorem State.port_setMailbox (h : HostId) (x : Mailbox) (i : HostId) : (s.setMailbox h x).port i = s.port i := rfl
@[simp] theorem State.lane_setMailbox (h : HostId) (x : Mailbox) (i : LaneId) : (s.setMailbox h x).lane i = s.lane i := rfl
@[simp] theorem State.bank_setMailbox (h : HostId) (x : Mailbox) (i : LaneId) (j : BankId) : (s.setMailbox h x).bank i j = s.bank i j := rfl
@[simp] theorem State.station_setMailbox (h : HostId) (x : Mailbox) (i : SegmentId) (j : StationId) : (s.setMailbox h x).station i j = s.station i j := rfl
@[simp] theorem State.directQueue_setMailbox (h : HostId) (x : Mailbox) (i : HostId) : (s.setMailbox h x).directQueue i = s.directQueue i := rfl
@[simp] theorem State.timer_setMailbox (h : HostId) (x : Mailbox) (i : Fin 4) : (s.setMailbox h x).timer i = s.timer i := rfl
@[simp] theorem State.usageOf_setMailbox (h : HostId) (x : Mailbox) (i : HostId) : (s.setMailbox h x).usageOf i = s.usageOf i := rfl
@[simp] theorem State.quotaOf_setMailbox (h : HostId) (x : Mailbox) (i : HostId) : (s.setMailbox h x).quotaOf i = s.quotaOf i := rfl
@[simp] theorem State.inReset_setMailbox (h : HostId) (x : Mailbox) (i : HostId) : (s.setMailbox h x).inReset i = s.inReset i := rfl

@[simp] theorem State.port_setStation (g : SegmentId) (n : StationId) (x : Station) (i : HostId) : (s.setStation g n x).port i = s.port i := rfl
@[simp] theorem State.lane_setStation (g : SegmentId) (n : StationId) (x : Station) (i : LaneId) : (s.setStation g n x).lane i = s.lane i := rfl
@[simp] theorem State.bank_setStation (g : SegmentId) (n : StationId) (x : Station) (i : LaneId) (j : BankId) : (s.setStation g n x).bank i j = s.bank i j := rfl
@[simp] theorem State.mailbox_setStation (g : SegmentId) (n : StationId) (x : Station) (i : HostId) : (s.setStation g n x).mailbox i = s.mailbox i := rfl
@[simp] theorem State.directQueue_setStation (g : SegmentId) (n : StationId) (x : Station) (i : HostId) : (s.setStation g n x).directQueue i = s.directQueue i := rfl
@[simp] theorem State.timer_setStation (g : SegmentId) (n : StationId) (x : Station) (i : Fin 4) : (s.setStation g n x).timer i = s.timer i := rfl
@[simp] theorem State.usageOf_setStation (g : SegmentId) (n : StationId) (x : Station) (i : HostId) : (s.setStation g n x).usageOf i = s.usageOf i := rfl
@[simp] theorem State.quotaOf_setStation (g : SegmentId) (n : StationId) (x : Station) (i : HostId) : (s.setStation g n x).quotaOf i = s.quotaOf i := rfl
@[simp] theorem State.inReset_setStation (g : SegmentId) (n : StationId) (x : Station) (i : HostId) : (s.setStation g n x).inReset i = s.inReset i := rfl

@[simp] theorem State.port_setDirectQueue (h : HostId) (x : List DirectRequest) (i : HostId) : (s.setDirectQueue h x).port i = s.port i := rfl
@[simp] theorem State.lane_setDirectQueue (h : HostId) (x : List DirectRequest) (i : LaneId) : (s.setDirectQueue h x).lane i = s.lane i := rfl
@[simp] theorem State.bank_setDirectQueue (h : HostId) (x : List DirectRequest) (i : LaneId) (j : BankId) : (s.setDirectQueue h x).bank i j = s.bank i j := rfl
@[simp] theorem State.mailbox_setDirectQueue (h : HostId) (x : List DirectRequest) (i : HostId) : (s.setDirectQueue h x).mailbox i = s.mailbox i := rfl
@[simp] theorem State.station_setDirectQueue (h : HostId) (x : List DirectRequest) (i : SegmentId) (j : StationId) : (s.setDirectQueue h x).station i j = s.station i j := rfl
@[simp] theorem State.timer_setDirectQueue (h : HostId) (x : List DirectRequest) (i : Fin 4) : (s.setDirectQueue h x).timer i = s.timer i := rfl
@[simp] theorem State.usageOf_setDirectQueue (h : HostId) (x : List DirectRequest) (i : HostId) : (s.setDirectQueue h x).usageOf i = s.usageOf i := rfl
@[simp] theorem State.quotaOf_setDirectQueue (h : HostId) (x : List DirectRequest) (i : HostId) : (s.setDirectQueue h x).quotaOf i = s.quotaOf i := rfl
@[simp] theorem State.inReset_setDirectQueue (h : HostId) (x : List DirectRequest) (i : HostId) : (s.setDirectQueue h x).inReset i = s.inReset i := rfl

@[simp] theorem State.port_setTimer (t : Fin 4) (x : IntervalTimer) (i : HostId) : (s.setTimer t x).port i = s.port i := rfl
@[simp] theorem State.lane_setTimer (t : Fin 4) (x : IntervalTimer) (i : LaneId) : (s.setTimer t x).lane i = s.lane i := rfl
@[simp] theorem State.bank_setTimer (t : Fin 4) (x : IntervalTimer) (i : LaneId) (j : BankId) : (s.setTimer t x).bank i j = s.bank i j := rfl
@[simp] theorem State.mailbox_setTimer (t : Fin 4) (x : IntervalTimer) (i : HostId) : (s.setTimer t x).mailbox i = s.mailbox i := rfl
@[simp] theorem State.station_setTimer (t : Fin 4) (x : IntervalTimer) (i : SegmentId) (j : StationId) : (s.setTimer t x).station i j = s.station i j := rfl
@[simp] theorem State.directQueue_setTimer (t : Fin 4) (x : IntervalTimer) (i : HostId) : (s.setTimer t x).directQueue i = s.directQueue i := rfl
@[simp] theorem State.usageOf_setTimer (t : Fin 4) (x : IntervalTimer) (i : HostId) : (s.setTimer t x).usageOf i = s.usageOf i := rfl
@[simp] theorem State.quotaOf_setTimer (t : Fin 4) (x : IntervalTimer) (i : HostId) : (s.setTimer t x).quotaOf i = s.quotaOf i := rfl
@[simp] theorem State.inReset_setTimer (t : Fin 4) (x : IntervalTimer) (i : HostId) : (s.setTimer t x).inReset i = s.inReset i := rfl

@[simp] theorem State.port_placeSteps (h : HostId) (k : Nat) (i : HostId) : (s.placeSteps h k).port i = s.port i := rfl
@[simp] theorem State.lane_placeSteps (h : HostId) (k : Nat) (i : LaneId) : (s.placeSteps h k).lane i = s.lane i := rfl
@[simp] theorem State.bank_placeSteps (h : HostId) (k : Nat) (i : LaneId) (j : BankId) : (s.placeSteps h k).bank i j = s.bank i j := rfl
@[simp] theorem State.mailbox_placeSteps (h : HostId) (k : Nat) (i : HostId) : (s.placeSteps h k).mailbox i = s.mailbox i := rfl
@[simp] theorem State.station_placeSteps (h : HostId) (k : Nat) (i : SegmentId) (j : StationId) : (s.placeSteps h k).station i j = s.station i j := rfl
@[simp] theorem State.directQueue_placeSteps (h : HostId) (k : Nat) (i : HostId) : (s.placeSteps h k).directQueue i = s.directQueue i := rfl
@[simp] theorem State.timer_placeSteps (h : HostId) (k : Nat) (i : Fin 4) : (s.placeSteps h k).timer i = s.timer i := rfl
@[simp] theorem State.quotaOf_placeSteps (h : HostId) (k : Nat) (i : HostId) : (s.placeSteps h k).quotaOf i = s.quotaOf i := rfl
@[simp] theorem State.inReset_placeSteps (h : HostId) (k : Nat) (i : HostId) : (s.placeSteps h k).inReset i = s.inReset i := rfl

@[simp] theorem State.port_freeSteps (h : HostId) (k : Nat) (i : HostId) : (s.freeSteps h k).port i = s.port i := rfl
@[simp] theorem State.lane_freeSteps (h : HostId) (k : Nat) (i : LaneId) : (s.freeSteps h k).lane i = s.lane i := rfl
@[simp] theorem State.bank_freeSteps (h : HostId) (k : Nat) (i : LaneId) (j : BankId) : (s.freeSteps h k).bank i j = s.bank i j := rfl
@[simp] theorem State.mailbox_freeSteps (h : HostId) (k : Nat) (i : HostId) : (s.freeSteps h k).mailbox i = s.mailbox i := rfl
@[simp] theorem State.station_freeSteps (h : HostId) (k : Nat) (i : SegmentId) (j : StationId) : (s.freeSteps h k).station i j = s.station i j := rfl
@[simp] theorem State.directQueue_freeSteps (h : HostId) (k : Nat) (i : HostId) : (s.freeSteps h k).directQueue i = s.directQueue i := rfl
@[simp] theorem State.timer_freeSteps (h : HostId) (k : Nat) (i : Fin 4) : (s.freeSteps h k).timer i = s.timer i := rfl
@[simp] theorem State.quotaOf_freeSteps (h : HostId) (k : Nat) (i : HostId) : (s.freeSteps h k).quotaOf i = s.quotaOf i := rfl
@[simp] theorem State.inReset_freeSteps (h : HostId) (k : Nat) (i : HostId) : (s.freeSteps h k).inReset i = s.inReset i := rfl

@[simp] theorem State.port_gainUsage (h : HostId) (k : Nat) (i : HostId) : (s.gainUsage h k).port i = s.port i := rfl
@[simp] theorem State.lane_gainUsage (h : HostId) (k : Nat) (i : LaneId) : (s.gainUsage h k).lane i = s.lane i := rfl
@[simp] theorem State.bank_gainUsage (h : HostId) (k : Nat) (i : LaneId) (j : BankId) : (s.gainUsage h k).bank i j = s.bank i j := rfl
@[simp] theorem State.mailbox_gainUsage (h : HostId) (k : Nat) (i : HostId) : (s.gainUsage h k).mailbox i = s.mailbox i := rfl
@[simp] theorem State.station_gainUsage (h : HostId) (k : Nat) (i : SegmentId) (j : StationId) : (s.gainUsage h k).station i j = s.station i j := rfl
@[simp] theorem State.directQueue_gainUsage (h : HostId) (k : Nat) (i : HostId) : (s.gainUsage h k).directQueue i = s.directQueue i := rfl
@[simp] theorem State.timer_gainUsage (h : HostId) (k : Nat) (i : Fin 4) : (s.gainUsage h k).timer i = s.timer i := rfl
@[simp] theorem State.quotaOf_gainUsage (h : HostId) (k : Nat) (i : HostId) : (s.gainUsage h k).quotaOf i = s.quotaOf i := rfl
@[simp] theorem State.inReset_gainUsage (h : HostId) (k : Nat) (i : HostId) : (s.gainUsage h k).inReset i = s.inReset i := rfl

@[simp] theorem State.port_loseUsage (h : HostId) (k : Nat) (i : HostId) : (s.loseUsage h k).port i = s.port i := rfl
@[simp] theorem State.lane_loseUsage (h : HostId) (k : Nat) (i : LaneId) : (s.loseUsage h k).lane i = s.lane i := rfl
@[simp] theorem State.bank_loseUsage (h : HostId) (k : Nat) (i : LaneId) (j : BankId) : (s.loseUsage h k).bank i j = s.bank i j := rfl
@[simp] theorem State.mailbox_loseUsage (h : HostId) (k : Nat) (i : HostId) : (s.loseUsage h k).mailbox i = s.mailbox i := rfl
@[simp] theorem State.station_loseUsage (h : HostId) (k : Nat) (i : SegmentId) (j : StationId) : (s.loseUsage h k).station i j = s.station i j := rfl
@[simp] theorem State.directQueue_loseUsage (h : HostId) (k : Nat) (i : HostId) : (s.loseUsage h k).directQueue i = s.directQueue i := rfl
@[simp] theorem State.timer_loseUsage (h : HostId) (k : Nat) (i : Fin 4) : (s.loseUsage h k).timer i = s.timer i := rfl
@[simp] theorem State.quotaOf_loseUsage (h : HostId) (k : Nat) (i : HostId) : (s.loseUsage h k).quotaOf i = s.quotaOf i := rfl
@[simp] theorem State.inReset_loseUsage (h : HostId) (k : Nat) (i : HostId) : (s.loseUsage h k).inReset i = s.inReset i := rfl

/-! ### Reading what was written -/

@[simp] theorem State.port_setPort_self (h : HostId) (x : Port) : (s.setPort h x).port h = x := by
  simp [State.port, State.setPort]

@[simp] theorem State.port_setPort_ne {h k : HostId} (x : Port) (e : h ≠ k) : (s.setPort h x).port k = s.port k := by
  simp [State.port, State.setPort, e]

@[simp] theorem State.lane_setLane_self (l : LaneId) (x : Lane) : (s.setLane l x).lane l = x := by
  simp [State.lane, State.setLane]

@[simp] theorem State.lane_setLane_ne {l m : LaneId} (x : Lane) (e : l ≠ m) : (s.setLane l x).lane m = s.lane m := by
  simp [State.lane, State.setLane, e]

@[simp] theorem State.mailbox_setMailbox_self (h : HostId) (x : Mailbox) : (s.setMailbox h x).mailbox h = x := by
  simp [State.mailbox, State.setMailbox]

@[simp] theorem State.mailbox_setMailbox_ne {h k : HostId} (x : Mailbox) (e : h ≠ k) :
    (s.setMailbox h x).mailbox k = s.mailbox k := by
  simp [State.mailbox, State.setMailbox, e]

@[simp] theorem State.bank_setBank_self (l : LaneId) (b : BankId) (x : Bank) : (s.setBank l b x).bank l b = x := by
  simp [State.bank, State.setBank]

theorem State.bank_setBank_ne {l m : LaneId} {b c : BankId} (x : Bank) (e : l ≠ m ∨ b ≠ c) :
    (s.setBank l b x).bank m c = s.bank m c := by
  by_cases hl : l = m
  · subst hl
    rcases e with e | e
    · exact absurd rfl e
    · simp [State.bank, State.setBank, e]
  · simp [State.bank, State.setBank, hl]

@[simp] theorem State.station_setStation_self (g : SegmentId) (n : StationId) (x : Station) :
    (s.setStation g n x).station g n = x := by
  simp [State.station, State.setStation]

theorem State.station_setStation_ne {g i : SegmentId} {n j : StationId} (x : Station) (e : g ≠ i ∨ n ≠ j) :
    (s.setStation g n x).station i j = s.station i j := by
  by_cases hg : g = i
  · subst hg
    rcases e with e | e
    · exact absurd rfl e
    · simp [State.station, State.setStation, e]
  · simp [State.station, State.setStation, hg]

@[simp] theorem State.directQueue_setDirectQueue_self (h : HostId) (q : List DirectRequest) :
    (s.setDirectQueue h q).directQueue h = q := by
  simp [State.directQueue, State.setDirectQueue]

@[simp] theorem State.directQueue_setDirectQueue_ne {h k : HostId} (q : List DirectRequest) (e : h ≠ k) :
    (s.setDirectQueue h q).directQueue k = s.directQueue k := by
  simp [State.directQueue, State.setDirectQueue, e]

@[simp] theorem State.timer_setTimer_self (t : Fin 4) (x : IntervalTimer) : (s.setTimer t x).timer t = x := by
  simp [State.timer, State.setTimer]

@[simp] theorem State.timer_setTimer_ne {t u : Fin 4} (x : IntervalTimer) (e : t ≠ u) :
    (s.setTimer t x).timer u = s.timer u := by
  simp [State.timer, State.setTimer, e]

@[simp] theorem State.setLane_setLane (l : LaneId) (x y : Lane) : (s.setLane l x).setLane l y = s.setLane l y := by
  simp [State.setLane]

@[simp] theorem State.setPort_setPort (h : HostId) (x y : Port) : (s.setPort h x).setPort h y = s.setPort h y := by
  simp [State.setPort]

@[simp] theorem State.setLane_lane (l : LaneId) : s.setLane l (s.lane l) = s := by
  simp [State.setLane, State.lane]

@[simp] theorem State.setPort_port (h : HostId) : s.setPort h (s.port h) = s := by
  simp [State.setPort, State.port]

end Machine

end Sys2Proof
end

