-- ==== Sys2Proof/Laws/Ops.lean ====
section
/-! SUPPORT. What each shared operation of Machine/Ops.lean can do, said once: queuing an event, choosing a bank,
releasing a pin, and settling a write toggle. -/

namespace Sys2Proof.Machine

/-! ### Events -/

/-- What becomes of a record at one port (R139): masked, dropped, or appended. -/
theorem Mailbox.record_cases (m : Mailbox) (e : Event) :
    (m.mask.getLsbD e.body.kind = false ∧ m.record e = m)
      ∨ (m.mask.getLsbD e.body.kind = true ∧ Config.queueMax ≤ m.queue.length
          ∧ m.record e = { m with lost := satSucc m.lost })
      ∨ (m.mask.getLsbD e.body.kind = true ∧ m.queue.length < Config.queueMax
          ∧ m.record e = { m with queue := m.queue ++ [e] }) := by
  unfold Mailbox.record
  by_cases hm : m.mask.getLsbD e.body.kind = false
  · exact .inl ⟨hm, if_pos hm⟩
  · have ht : m.mask.getLsbD e.body.kind = true := by simpa using hm
    by_cases hq : Config.queueMax ≤ m.queue.length
    · exact .inr (.inl ⟨ht, hq, by rw [if_neg hm, if_pos hq]⟩)
    · exact .inr (.inr ⟨ht, by omega, by rw [if_neg hm, if_neg hq]⟩)

/-- The mask and the enable outlive the queuing of a record. -/
@[simp] theorem Mailbox.record_mask (m : Mailbox) (e : Event) : (m.record e).mask = m.mask := by
  obtain ⟨_, h⟩ | ⟨_, _, h⟩ | ⟨_, _, h⟩ := m.record_cases e <;> rw [h]

@[simp] theorem Mailbox.record_enable (m : Mailbox) (e : Event) : (m.record e).enable = m.enable := by
  obtain ⟨_, h⟩ | ⟨_, _, h⟩ | ⟨_, _, h⟩ := m.record_cases e <;> rw [h]

theorem satSucc_le (n : Nat) (h : n ≤ Config.countMax) : satSucc n ≤ Config.countMax := by
  unfold satSucc; split <;> omega

/-- Sending an event to one port changes the notification unit alone. -/
theorem State.queueEvent_eq (s : State) (h : HostId) (b : EventBody) :
    s.queueEvent h b = { s with mail := (s.queueEvent h b).mail } := by
  unfold State.queueEvent; split <;> rfl

theorem State.queueEvent_mailbox (s : State) (h k : HostId) (b : EventBody) :
    (s.queueEvent h b).mailbox k
      = if h = k ∧ s.inReset h = false then (s.mailbox k).record ⟨s.timestamp, b⟩ else s.mailbox k := by
  unfold State.queueEvent
  by_cases hr : s.inReset h = true
  · simp [hr]
  · have hr' : s.inReset h = false := by simpa using hr
    by_cases e : h = k
    · subst e; simp [hr']
    · simp [hr', e]

/-- An act on each port that changes the notification unit alone does no more when done at all of them. -/
theorem State.eachHost_mail (f : HostId → State → State) (hf : ∀ h u, f h u = { u with mail := (f h u).mail })
    (s : State) : eachHost f s = { s with mail := (eachHost f s).mail } := by
  have one : ∀ h u, (∃ m, u = { s with mail := m }) → ∃ m, f h u = { s with mail := m } := by
    rintro h u ⟨m, rfl⟩
    rw [hf]
    exact ⟨_, rfl⟩
  obtain ⟨m, hm⟩ := one 3 _ (one 2 _ (one 1 _ (one 0 s ⟨s.mail, rfl⟩)))
  have he : eachHost f s = { s with mail := m } := hm
  rw [he]

/-- Sending an event to every port changes the notification unit alone. -/
theorem State.queueAll_eq (s : State) (b : EventBody) : s.queueAll b = { s with mail := (s.queueAll b).mail } :=
  State.eachHost_mail _ (fun h u => u.queueEvent_eq h b) s

theorem State.queueEvent_inReset (s : State) (h k : HostId) (b : EventBody) :
    (s.queueEvent h b).inReset k = s.inReset k := by rw [State.queueEvent_eq]; rfl

theorem State.queueEvent_timestamp (s : State) (h : HostId) (b : EventBody) :
    (s.queueEvent h b).timestamp = s.timestamp := by rw [State.queueEvent_eq]

/-- Every port not in reset has the record queued, each by its own mask and room (R138, R139). -/
theorem State.queueAll_mailbox (s : State) (k : HostId) (b : EventBody) :
    (s.queueAll b).mailbox k
      = if s.inReset k = false then (s.mailbox k).record ⟨s.timestamp, b⟩ else s.mailbox k := by
  unfold State.queueAll eachHost
  simp only [State.queueEvent_mailbox, State.queueEvent_inReset, State.queueEvent_timestamp]
  fin_cases k <;> simp

theorem State.queueOwner_eq (s : State) (l : LaneId) (b : EventBody) :
    s.queueOwner l b = { s with mail := (s.queueOwner l b).mail } := by
  unfold State.queueOwner
  split
  · exact State.queueEvent_eq ..
  · rfl

theorem State.queueSubscribers_eq (s : State) (l : LaneId) (b : EventBody) :
    s.queueSubscribers l b = { s with mail := (s.queueSubscribers l b).mail } := by
  refine State.eachHost_mail _ (fun h u => ?_) s
  split
  · exact u.queueEvent_eq h b
  · rfl

/-! ### Banks and pins -/

/-- A lane that asks for a bank gets the lowest that is neither front nor pinned, cleared, or waits (R121). -/
theorem State.takeBank_cases (s : State) (l : LaneId) :
    (∃ b, s.chooseBank l = some b ∧ (s.lane l).front ≠ some b ∧ s.pinned l b = false
        ∧ s.takeBank l = (s.clearBank l b).setLane l
            { s.lane l with run := .ready, write := some b, waiting := false })
      ∨ (s.chooseBank l = none ∧ s.takeBank l = s.setLane l { s.lane l with run := .bankWait, waiting := true }) := by
  unfold State.takeBank
  cases hc : s.chooseBank l with
  | some b =>
    have hb := List.find?_some hc
    simp only [Bool.and_eq_true, bne_iff_ne, ne_eq, Bool.not_eq_true'] at hb
    exact .inl ⟨b, rfl, hb.1, hb.2, rfl⟩
  | none => exact .inr ⟨rfl, rfl⟩

/-- The records of another bank, and the stamp of every bank, outlive the clearing of a bank. -/
theorem State.clearBank_stamp (s : State) (l m : LaneId) (b c : BankId) :
    ((s.clearBank l b).bank m c).stamp = (s.bank m c).stamp := by
  unfold State.clearBank
  by_cases e : l = m ∧ b = c
  · obtain ⟨rfl, rfl⟩ := e; simp
  · rw [State.bank_setBank_ne]
    by_cases hl : l = m
    · exact .inr fun hb => e ⟨hl, hb⟩
    · exact .inl hl

/-- A released pin leaves its set, and a lane waiting for one of its banks chooses again (R130, R122). -/
theorem State.releasePin_cases (s : State) (h : HostId) :
    ((s.port h).pin = none ∧ s.releasePin h = s)
      ∨ ∃ l b, (s.port h).pin = some (l, b)
          ∧ s.releasePin h
            = (if (s.lane l).waiting then (s.setPort h { s.port h with pin := none }).takeBank l
              else s.setPort h { s.port h with pin := none }) := by
  unfold State.releasePin
  cases hp : (s.port h).pin with
  | none => exact .inl ⟨rfl, rfl⟩
  | some lb => exact .inr ⟨lb.1, lb.2, rfl, rfl⟩

/-! ### Write toggles -/

/-- The toggle of the step's station flips if a frame was fully sent, and nothing else changes (R98). -/
theorem State.settleToggle_cases (s : State) (st : Step) (sent : Bool) :
    (∃ seg n, st.toggles = some (seg, n) ∧ sent = true
        ∧ s.settleToggle st sent
          = s.setStation seg n { s.station seg n with toggle := !(s.station seg n).toggle })
      ∨ s.settleToggle st sent = s := by
  unfold State.settleToggle
  cases ht : st.toggles with
  | none => exact .inr rfl
  | some p =>
    cases sent with
    | true => exact .inl ⟨p.1, p.2, rfl, rfl, rfl⟩
    | false => exact .inr rfl

end Sys2Proof.Machine
end

