-- ==== Sys2Proof/Laws/Ports.lean ====
section
/-! SUPPORT. What the port unit's and the lane controller's shared operations can do, said once: taking a request, giving a
response, and taking a trigger arrival. -/

namespace Sys2Proof.Machine

/-- A port that holds no unread response gives its next one by a change of that port alone (R165). -/
theorem State.respond_of_not_ready (s : State) (h : HostId) (tag : Byte) (st : Status) (r : Reply)
    (hn : (s.port h).isReady = false) : s.respond h tag st r = s.setPort h ((s.port h).answered st tag r) := by
  have hd : s.discardUnread h = s := by
    unfold Port.isReady at hn
    unfold State.discardUnread
    dsimp only
    split <;> simp_all
  unfold State.respond
  rw [hd]

/-- A request is ignored in reset, dropped while the port is BUSY, and otherwise answered by its verdict (R164, R165). -/
theorem State.request_cases (s : State) (h : HostId) (tag : Byte) (act : State → Verdict) :
    ((s.port h).state = .inReset ∧ s.request h tag act = s)
      ∨ ((∃ q, (s.port h).state = .busy q)
          ∧ s.request h tag act
            = s.setPort h { s.port h with sticky := { (s.port h).sticky with dropped := true } })
      ∨ (∃ st r, act s = .error (st, r) ∧ s.request h tag act = s.respond h tag st r)
      ∨ (∃ t r, act s = .ok (t, .now r) ∧ s.request h tag act = t.respond h tag .ok r)
      ∨ ∃ t k, act s = .ok (t, .held k) ∧ s.request h tag act = t.hold h tag k := by
  unfold State.request
  dsimp only
  split
  next hs => exact .inl ⟨hs, rfl⟩
  next hs => exact .inr (.inl ⟨⟨_, hs⟩, rfl⟩)
  next =>
    split
    · exact .inr (.inr (.inl ⟨_, _, ‹_›, rfl⟩))
    · exact .inr (.inr (.inr (.inl ⟨_, _, ‹_›, rfl⟩)))
    · exact .inr (.inr (.inr (.inr ⟨_, _, ‹_›, rfl⟩)))

/-- What a trigger arrival does, by the lane's run state (R44). -/
theorem State.arrive_cases (s : State) (l : LaneId) :
    (s.arrive l = (s, .ignored))
      ∨ ((s.lane l).run = .armed ∧ s.arrive l = (s.passStart l, .started))
      ∨ ((s.lane l).run = .atBreak ∧ s.arrive l = (s.setLane l { s.lane l with run := .ready }, .continued))
      ∨ ((s.lane l).pending = false ∧ s.arrive l = (s.setLane l { s.lane l with pending := true }, .pending))
      ∨ ((s.lane l).pending = true ∧ s.arrive l = (s.countOverrun l, .overrun)) := by
  unfold State.arrive
  dsimp only
  split
  · exact .inl rfl
  · exact .inl rfl
  · exact .inl rfl
  · exact .inr (.inl ⟨‹_›, rfl⟩)
  · exact .inr (.inr (.inl ⟨‹_›, rfl⟩))
  all_goals
    by_cases hp : (s.lane l).pending = true
    · exact .inr (.inr (.inr (.inr ⟨hp, by simp [hp]⟩)))
    · exact .inr (.inr (.inr (.inl ⟨by simpa using hp, by simp [hp]⟩)))

/-- A pass start is a bank choice at position 0 with no errors counted (R45). -/
theorem State.passStart_eq (s : State) (l : LaneId) :
    s.passStart l = (s.setLane l { s.lane l with position := 0, errorCount := 0 }).takeBank l := rfl

/-- A byte clocked out of a frame in progress: one of the frame's own, and filler after them (R161, R169). -/
theorem Port.sends_inFrame (p : Port) (f : Frame) (i : Nat) (h : p.frame = .inFrame f) :
    p.sends i = some (f.out.getD i Config.filler) := by
  simp [Port.sends, h]

/-- An ignored frame clocks out filler alone (R171). -/
theorem Port.sends_ignored (p : Port) (i : Nat) (h : p.frame = .ignored) : p.sends i = some Config.filler := by
  simp [Port.sends, h]

end Sys2Proof.Machine
end

