-- ==== Sys2Proof/Laws/Lanes.lean ====
section
/-! SUPPORT. What the lane controller's shared operations can do, said once: overruns, abandoned passes, stops, and the
held responses they make ready. -/

namespace Sys2Proof.Machine

/-- An overrun is counted, and the first one is announced (R47). -/
theorem State.countOverrun_cases (s : State) (l : LaneId) :
    ((s.lane l).overrun = 0
        ∧ s.countOverrun l = (s.setLane l { s.lane l with overrun := 1 }).queueOwner l (.triggerOverrun l))
      ∨ ((s.lane l).overrun ≠ 0
        ∧ s.countOverrun l = s.setLane l { s.lane l with overrun := satSucc (s.lane l).overrun }) := by
  unfold State.countOverrun
  by_cases h : (s.lane l).overrun = 0
  · exact .inl ⟨h, by simp [h, satSucc, Config.countMax]⟩
  · exact .inr ⟨h, by simp [h]⟩

/-- A held step settles its toggle (R23, R98); with no step held nothing happens. -/
theorem State.settleHeld_cases (s : State) (l : LaneId) :
    (∃ k st, (s.lane l).held = some k ∧ (s.lane l).program[(s.lane l).position]? = some st
        ∧ s.settleHeld l = s.settleToggle st k.fullySent)
      ∨ s.settleHeld l = s := by
  unfold State.settleHeld
  dsimp only
  split
  · exact .inl ⟨_, _, ‹_›, ‹_›, rfl⟩
  · exact .inr rfl

/-- The settling of a toggle changes the station table alone. -/
theorem State.settleToggle_eq (s : State) (st : Step) (sent : Bool) :
    s.settleToggle st sent = { s with stations := (s.settleToggle st sent).stations } := by
  obtain ⟨_, _, _, _, h⟩ | h := s.settleToggle_cases st sent
  · rw [h]; rfl
  · rw [h]

theorem State.settleHeld_eq (s : State) (l : LaneId) :
    s.settleHeld l = { s with stations := (s.settleHeld l).stations } := by
  obtain ⟨k, st, _, _, h⟩ | h := s.settleHeld_cases l
  · rw [h]; exact s.settleToggle_eq st k.fullySent
  · rw [h]

/-- What an abandoned pass leaves of its lane (R23). -/
theorem State.abandonPass_eq (s : State) (l : LaneId) :
    s.abandonPass l
      = (s.settleHeld l).setLane l { s.lane l with
          write := none
          waiting := false
          held := none
          retryLeft := 0
          pending := false
          disarmAtEnd := false } := by
  have h : (s.settleHeld l).lane l = s.lane l := by rw [State.settleHeld_eq]; rfl
  unfold State.abandonPass
  dsimp only
  rw [h]

/-- The executor lets go of a lane's step and of no other. -/
theorem State.releaseLane_cases (s : State) (l : LaneId) :
    (∃ e, s.exec = some e ∧ e.holder = .lane l ∧ s.releaseLane l = { s with exec := none })
      ∨ (s.exec.any (fun e => e.holder == .lane l) = false ∧ s.releaseLane l = s) := by
  unfold State.releaseLane
  cases he : s.exec with
  | none => exact .inr ⟨rfl, rfl⟩
  | some e =>
    by_cases h : e.holder = .lane l
    · exact .inl ⟨e, rfl, h, by simp [h]⟩
    · exact .inr ⟨by simp [h], by simp [h]⟩

/-- A held response becomes ready at a port that waits for it, and at no other (R165). -/
theorem Port.released_cases (p : Port) (k : HeldKind) (r : Reply) :
    (∃ q, p.state = .busy q ∧ q.kind = k ∧ p.released k r = p.answered .ok q.tag r) ∨ p.released k r = p := by
  unfold Port.released
  split
  next q hq =>
    by_cases h : q.kind = k
    · exact .inl ⟨q, hq, h, by simp [h]⟩
    · exact .inr (by simp [h])
  · exact .inr rfl

/-- Held responses made ready: every port by itself, and nothing but the ports. -/
theorem State.readyHeld_port (s : State) (k : HeldKind) (r : Reply) (h : HostId) :
    (s.readyHeld k r).port h = (s.port h).released k r := by
  unfold State.readyHeld eachHost
  fin_cases h <;> simp

theorem State.readyHeld_eq (s : State) (k : HeldKind) (r : Reply) :
    s.readyHeld k r = { s with ports := (s.readyHeld k r).ports } := rfl

/-- A lane is stopped by its run state (R35, R36). -/
theorem State.stopLane_cases (s : State) (l : LaneId) :
    (((s.lane l).run = .idle ∨ (s.lane l).run = .stopping) ∧ s.stopLane l = s)
      ∨ ((s.lane l).run = .armed ∧ s.stopLane l = s.setLane l { s.lane l with run := .idle })
      ∨ ((s.lane l).run = .halted ∧ s.stopLane l = s.setLane l { s.lane l with run := .idle, position := 0 })
      ∨ ((s.lane l).run = .running ∧ s.laneInFlight l = true
          ∧ s.stopLane l = s.setLane l { s.lane l with run := .stopping })
      ∨ ((s.lane l).run = .running ∧ s.laneInFlight l = false
          ∧ s.stopLane l = (s.settleStopped l).leaveStopping l)
      ∨ (((s.lane l).run = .bankWait ∨ (s.lane l).run = .ready ∨ (s.lane l).run = .suspended
            ∨ (s.lane l).run = .retryWait ∨ (s.lane l).run = .atBreak) ∧ s.stopLane l = s.stopAtOnce l) := by
  unfold State.stopLane
  dsimp only
  cases hr : (s.lane l).run <;> simp
  cases s.laneInFlight l <;> simp

end Sys2Proof.Machine
end

