-- ==== Sys2Proof/Laws/Line.lean ====
section
/-! SUPPORT. What the field line controller's shared operations can do, said once: the station table, the withdrawal of the
grant, OFF, a line fault, and the line reset sequence. -/

namespace Sys2Proof.Machine

/-- A counted result updates one entry, and a change between PRESENT and SILENT is announced (R97). -/
theorem State.updateStation_cases (s : State) (seg : SegmentId) (st : StationId) (valid : Bool) :
    let x := s.station seg st
    let y := x.after s.settings.silentThreshold valid
    let t := s.setStation seg st y
    (x.silent = true ∧ y.silent = false ∧ s.updateStation seg st valid = t.queueAll (.stationBack seg st))
      ∨ (x.silent = false ∧ y.silent = true ∧ s.updateStation seg st valid = t.queueAll (.stationSilent seg st))
      ∨ (x.silent = y.silent ∧ s.updateStation seg st valid = t) := by
  unfold State.updateStation
  dsimp only
  cases (s.station seg st).silent <;>
    cases ((s.station seg st).after s.settings.silentThreshold valid).silent <;> simp

/-- What becomes of the holder of a grant that is withdrawn (R65, R109). -/
theorem State.withdraw_cases (s : State) :
    (s.exec = none ∧ s.withdraw = s)
      ∨ ∃ e, s.exec = some e ∧
        ((∃ l, e.holder = .lane l ∧ (s.lane l).run = .stopping
            ∧ s.withdraw = ({ s with exec := none }.settleToggle e.step e.fullySent).leaveStopping l)
          ∨ (∃ l, e.holder = .lane l ∧ (s.lane l).run ≠ .stopping
            ∧ s.withdraw = { s with exec := none }.setLane l { s.lane l with run := .suspended })
          ∨ (∃ h, e.holder = .direct h ∧ s.withdraw = { s with exec := none }.keepAtHead h e none)
          ∨ (e.holder = .discarded ∧ s.withdraw = { s with exec := none }.settleToggle e.step e.fullySent)
          ∨ (e.holder = .probe ∧ s.withdraw = { s with exec := none })) := by
  unfold State.withdraw
  cases he : s.exec with
  | none => exact .inl ⟨rfl, rfl⟩
  | some e =>
    refine .inr ⟨e, rfl, ?_⟩
    cases hh : e.holder with
    | lane l =>
      by_cases hr : (s.lane l).run = .stopping
      · exact .inl ⟨l, rfl, hr, by simp only [hh]; exact if_pos hr⟩
      · exact .inr (.inl ⟨l, rfl, hr, by simp only [hh]; exact if_neg hr⟩)
    | direct h => exact .inr (.inr (.inl ⟨h, rfl, by simp only [hh]⟩))
    | discarded => exact .inr (.inr (.inr (.inl ⟨rfl, by simp only [hh]⟩)))
    | probe => exact .inr (.inr (.inr (.inr ⟨rfl, by simp only [hh]⟩)))

/-- A direct head keeps what the executor knew of it (R107, R109). -/
theorem State.keepAtHead_cases (s : State) (h : HostId) (e : Execution) (left : Option Nat) :
    (s.directQueue h = [] ∧ s.keepAtHead h e left = s)
      ∨ ∃ r rest, s.directQueue h = r :: rest
          ∧ s.keepAtHead h e left
            = s.setDirectQueue h
              ({ r with attempts := e.attempts, fullySent := e.fullySent, retryLeft := left } :: rest) := by
  unfold State.keepAtHead
  cases hq : s.directQueue h with
  | nil => exact .inl ⟨rfl, rfl⟩
  | cons r rest => exact .inr ⟨r, rest, rfl, rfl⟩

/-- FAULTED: the grant withdrawn, the fault announced once, and OFF at once where a disable waits (R94, R91). -/
theorem State.enterFaulted_cases (s : State) :
    ∃ u : State, u = { s.withdraw with
        mail := u.mail
        faultAnnounced := true
        link := .faulted
        phaseLeft := 0
        watchLeft := Config.watchTime }
      ∧ (u.mail = if s.withdraw.faultAnnounced then s.withdraw.mail else (s.withdraw.queueAll .linkFault).mail)
      ∧ s.enterFaulted = if u.disableWaiting then u.goOff else u := by
  unfold State.enterFaulted
  dsimp only
  by_cases h : s.withdraw.faultAnnounced = true
  · refine ⟨{ s.withdraw with link := .faulted, phaseLeft := 0, watchLeft := Config.watchTime }, ?_, ?_, ?_⟩
    · cases hw : s.withdraw; simp_all
    · simp [h]
    · simp [h]
  · refine ⟨{ s.withdraw.queueAll .linkFault with
        faultAnnounced := true
        link := .faulted
        phaseLeft := 0
        watchLeft := Config.watchTime }, ?_, ?_, ?_⟩
    · rw [State.queueAll_eq]
    · simp [h]
    · simp [h]

/-- A line reset begins, or the link enters FAULTED, by the level of FDA (R90, R93). -/
theorem State.beginLineReset_cases (s : State) :
    (s.fda = .low ∧ s.beginLineReset = s.enterFaulted)
      ∨ (s.fda = .high ∧ s.beginLineReset = s.withdraw.resetSegment 0) := by
  unfold State.beginLineReset
  cases h : s.fda
  · exact .inl ⟨rfl, rfl⟩
  · exact .inr ⟨rfl, rfl⟩

end Sys2Proof.Machine
end

