-- ==== Sys2Proof/Laws/Execution.lean ====
section
/-! SUPPORT. What the executor's shared operations can do, said once: completions, boundaries, grants, frame starts, counted
results and step ends. -/

namespace Sys2Proof.Machine

/-! ### Completions and boundaries -/

/-- A completed pass swaps the lane's banks (R124); without a write bank nothing happens (log 21). -/
theorem State.swapBanks_cases (s : State) (l : LaneId) :
    ((s.lane l).write = none ∧ s.swapBanks l = s)
      ∨ ∃ b, (s.lane l).write = some b
          ∧ s.swapBanks l
            = (s.setBank l b { s.bank l b with
                stamp := ⟨(s.lane l).generation + 1, s.timestamp, (s.lane l).errorCount, (s.bank l b).written⟩ }).setLane l
              { s.lane l with front := some b, write := none, generation := (s.lane l).generation + 1 } := by
  unfold State.swapBanks
  dsimp only
  cases h : (s.lane l).write with
  | none => exact .inl ⟨rfl, rfl⟩
  | some b => exact .inr ⟨b, rfl, rfl⟩

/-- The lane's next state after a completion (R73). -/
theorem State.afterPass_cases (s : State) (l : LaneId) :
    let x := s.lane l
    let again := x.config.mode = .continuous ∧ x.disarmAtEnd = false
    let idle := s.setLane l { x with run := .idle, position := 0, disarmAtEnd := false, pending := false }
    (again ∧ x.pending = true ∧ s.afterPass l = (s.setLane l { x with pending := false }).passStart l)
      ∨ (again ∧ x.pending = false ∧ s.afterPass l = s.setLane l { x with run := .armed, position := 0 })
      ∨ (¬again ∧ x.pending = true ∧ s.afterPass l = idle.countOverrun l)
      ∨ (¬again ∧ x.pending = false ∧ s.afterPass l = idle) := by
  unfold State.afterPass
  dsimp only
  by_cases h : (s.lane l).config.mode = .continuous ∧ (s.lane l).disarmAtEnd = false <;>
    cases (s.lane l).pending <;> simp [h]

/-- The checks before a step, by the first step left (R66, R67). -/
theorem State.passChecks_cases (s : State) (l : LaneId) (steps : List Step) :
    (steps = [] ∧ s.passChecks l steps = .ended (s.completePass l))
      ∨ (∃ tag rest, steps = .brk tag :: rest ∧ (s.lane l).pending = true
          ∧ s.passChecks l steps
            = (s.setLane l { s.lane l with
                position := (s.lane l).position + 1
                pending := false }).passChecks l rest)
      ∨ (∃ tag rest, steps = .brk tag :: rest ∧ (s.lane l).pending = false
          ∧ s.passChecks l steps
            = .ended ((s.setLane l { s.lane l with
                position := (s.lane l).position + 1
                run := .atBreak }).queueOwner l (.breakReached l (s.lane l).position tag)))
      ∨ ∃ st rest, steps = st :: rest ∧ st.segment ≠ none ∧ s.passChecks l steps = .goesOn st s := by
  match steps with
  | [] => exact .inl ⟨rfl, rfl⟩
  | .brk tag :: rest =>
    cases hp : (s.lane l).pending
    · exact .inr (.inr (.inl ⟨tag, rest, rfl, rfl, by simp [State.passChecks, hp]⟩))
    · exact .inr (.inl ⟨tag, rest, rfl, rfl, by simp [State.passChecks, hp]⟩)
  | .read .. :: rest => exact .inr (.inr (.inr ⟨_, rest, rfl, by simp [Step.segment], rfl⟩))
  | .write .. :: rest => exact .inr (.inr (.inr ⟨_, rest, rfl, by simp [Step.segment], rfl⟩))
  | .broadcast .. :: rest => exact .inr (.inr (.inr ⟨_, rest, rfl, by simp [Step.segment], rfl⟩))
  | .copy .. :: rest => exact .inr (.inr (.inr ⟨_, rest, rfl, by simp [Step.segment], rfl⟩))

/-- A step boundary: the lane has given up the grant, is preempted, or executes its step (R66, R68). -/
theorem State.boundary_cases (s : State) (l : LaneId) :
    (∃ t, s.passChecks l (s.stepsLeft l) = .ended t ∧ s.boundary l = t)
      ∨ ∃ st t, s.passChecks l (s.stepsLeft l) = .goesOn st t
          ∧ ((t.higherWaits (t.lane l).config.priority = true ∧ s.boundary l = (t.suspendPass l).passGrant)
            ∨ (t.higherWaits (t.lane l).config.priority = false ∧ s.boundary l = t.execute l st)) := by
  unfold State.boundary
  cases h : s.passChecks l (s.stepsLeft l) with
  | ended t => exact .inl ⟨t, rfl, rfl⟩
  | goesOn st t =>
    refine .inr ⟨st, t, rfl, ?_⟩
    cases hw : t.higherWaits (t.lane l).config.priority
    · exact .inr ⟨rfl, by simp [hw]⟩
    · exact .inl ⟨rfl, by simp [hw]⟩

/-- What a preemption leaves, by the resume policy (R68). -/
theorem State.suspendPass_cases (s : State) (l : LaneId) :
    let x := s.lane l
    (x.config.resume = .continue ∧ s.suspendPass l = s.setLane l { x with run := .suspended })
      ∨ (x.config.resume = .restart
        ∧ ((∃ b, x.write = some b
            ∧ s.suspendPass l = (s.setLane l { x with run := .suspended, position := 0, errorCount := 0 }).clearBank l b)
          ∨ (x.write = none
            ∧ s.suspendPass l = s.setLane l { x with run := .suspended, position := 0, errorCount := 0 }))) := by
  unfold State.suspendPass
  dsimp only
  cases (s.lane l).config.resume
  · exact .inl ⟨rfl, rfl⟩
  · refine .inr ⟨rfl, ?_⟩
    cases h : (s.lane l).write with
    | none => exact .inr ⟨rfl, by simp⟩
    | some b => exact .inl ⟨b, rfl, by simp⟩

/-- A lane granted gives the grant up at once, or executes its step (R64). -/
theorem State.grantLane_cases (s : State) (l : LaneId) :
    ∃ u : State, u = { s.setLane l { s.lane l with run := .running } with
        lanePtr := put s.lanePtr (s.lane l).config.priority (some l) }
      ∧ ((∃ t, u.passChecks l (u.stepsLeft l) = .ended t ∧ s.grantLane l = t)
        ∨ ∃ st t, u.passChecks l (u.stepsLeft l) = .goesOn st t ∧ s.grantLane l = t.execute l st) := by
  refine ⟨_, rfl, ?_⟩
  unfold State.grantLane
  dsimp only
  split
  · exact .inl ⟨_, ‹_›, rfl⟩
  · exact .inr ⟨_, _, ‹_›, rfl⟩

/-! ### Frame starts -/

/-- The source of a COPY, with what qualifies it (R101, R132). -/
theorem State.copySource_eq_some (s : State) (l : LaneId) (r : RecordId) (data : List Byte) :
    s.copySource l r = some data
      ↔ (s.lane l).condition ≠ .free ∧ ∃ b, (s.lane l).front = some b
          ∧ (look (s.bank l b).records r).outcome = some .done ∧ (look (s.bank l b).records r).data = data
          ∧ 1 ≤ data.length ∧ data.length ≤ 8 := by
  unfold State.copySource
  cases hc : (s.lane l).condition <;> cases hf : (s.lane l).front <;> simp [hc, hf]
  all_goals
    constructor
    · rintro ⟨⟨ho, hl, hu⟩, rfl⟩
      exact ⟨ho, rfl, hl, hu⟩
    · rintro ⟨ho, rfl, hl, hu⟩
      exact ⟨⟨ho, hl, hu⟩, rfl⟩

/-- What the statements call the data a frame carries is what the frame start captures (R18, R104). -/
theorem State.capture_of_carries (s : State) (e : Execution) (data : List Byte) (h : s.carries e data) :
    s.capture e = some data := by
  unfold State.carries at h
  unfold State.capture State.currentData
  cases hs : e.step <;> simp only [hs] at h ⊢
  case read => rw [h]
  case copy => exact (s.copySource_eq_some _ _ _).2 h
  all_goals
    cases hh : e.holder <;> simp only [hh] at h ⊢
    case lane => obtain ⟨_, _, _, _, hp⟩ | ⟨_, _, _, hp⟩ := h <;> simp [hp, Step.data]
    all_goals simp [Step.data, h]

/-- A COPY whose source no longer qualifies has no capture (R102). -/
theorem State.capture_of_no_source (s : State) (e : Execution) (hc : e.step.copies = true)
    (h : ∀ data, ¬s.carries e data) : s.capture e = none := by
  unfold Step.copies at hc
  unfold State.carries at h
  unfold State.capture
  cases hs : e.step <;> simp only [hs] at hc h ⊢
  case copy _ _ _ y r _ =>
    cases hd : s.copySource y r with
    | none => rfl
    | some data => exact absurd ((s.copySource_eq_some y r data).1 hd) (h data)
  all_goals exact absurd hc (by simp)

/-- The toggle a frame carries, by the statements' name for it (R98). -/
theorem State.frameToggle_eq (s : State) (e : Execution) : s.frameToggle e = s.carriedToggle e.step := by
  unfold State.frameToggle State.carriedToggle Step.toggles
  cases e.step <;> rfl

/-- A frame start fails in its capture, meets a fault, or puts the frame on the line (R87, R102). -/
theorem State.frameStart_cases (s : State) (e : Execution) :
    (s.capture e = none ∧ s.frameStart e = none)
      ∨ ∃ data, s.capture e = some data
          ∧ let u := { s with exec := some { e with inFlight := true, captured := ⟨data, s.frameToggle e⟩ } }
            (s.fda = .low ∧ s.frameStart e = some u.enterFaulted)
              ∨ (s.fda = .high
                ∧ s.frameStart e = some { u with link := .sending, phaseLeft := s.bits (frameBitTimes data) }) := by
  unfold State.frameStart
  cases h : s.capture e with
  | none => exact .inl ⟨rfl, rfl⟩
  | some data =>
    refine .inr ⟨data, rfl, ?_⟩
    cases hf : s.fda
    · exact .inl ⟨rfl, by simp⟩
    · exact .inr ⟨rfl, by simp [State.bits]⟩

/-! ### Step ends -/

/-- A step end settles the toggle and goes to the holder (R111). -/
theorem State.stepEnd_cases (s : State) (e : Execution) (o : StepOutcome) (data : List Byte) :
    let u := { s with exec := none }.settleToggle e.step e.fullySent
    (∃ l, e.holder = .lane l ∧ s.stepEnd e o data = u.laneStepEnd l e o data)
      ∨ (∃ h, e.holder = .direct h ∧ s.stepEnd e o data = u.directDone h e o data)
      ∨ ((e.holder = .discarded ∨ e.holder = .probe) ∧ s.stepEnd e o data = u) := by
  unfold State.stepEnd
  dsimp only
  cases e.holder with
  | lane l => exact .inl ⟨l, rfl, rfl⟩
  | direct h => exact .inr (.inl ⟨h, rfl, rfl⟩)
  | discarded => exact .inr (.inr ⟨.inl rfl, rfl⟩)
  | probe => exact .inr (.inr ⟨.inr rfl, rfl⟩)

/-- A lane's step end: STOPPING is left, the pass goes on, or the error policy acts (R36, R112 to R114). -/
theorem State.laneStepEnd_cases (s : State) (l : LaneId) (e : Execution) (o : StepOutcome) (data : List Byte) :
    let u := s.writeRecord l e o data
    ((u.lane l).run = .stopping ∧ s.laneStepEnd l e o data = u.leaveStopping l)
      ∨ ((u.lane l).run ≠ .stopping ∧ o = .done ∧ s.laneStepEnd l e o data = u.advance l)
      ∨ ((u.lane l).run ≠ .stopping ∧ o ≠ .done
        ∧ (((u.lane l).config.onError = .skip ∧ s.laneStepEnd l e o data = u.skipStep l e o)
          ∨ ((u.lane l).config.onError = .halt ∧ s.laneStepEnd l e o data = u.haltPass l o))) := by
  unfold State.laneStepEnd
  dsimp only
  by_cases hr : ((s.writeRecord l e o data).lane l).run = .stopping
  · exact .inl ⟨hr, if_pos hr⟩
  · by_cases ho : o = .done
    · exact .inr (.inl ⟨hr, ho, by rw [if_neg hr, if_pos ho]⟩)
    · refine .inr (.inr ⟨hr, ho, ?_⟩)
      rw [if_neg hr, if_neg ho]
      cases ((s.writeRecord l e o data).lane l).config.onError
      · exact .inl ⟨rfl, rfl⟩
      · exact .inr ⟨rfl, rfl⟩

/-- A record is written where the step has an into and the lane a write bank (R112); the records of no other place and no
stamp change. -/
theorem State.writeRecord_cases (s : State) (l : LaneId) (e : Execution) (o : StepOutcome) (data : List Byte) :
    (∃ r b, e.step.into = some r ∧ (s.lane l).write = some b
        ∧ s.writeRecord l e o data
          = s.setBank l b { s.bank l b with records := put (s.bank l b).records r ⟨some o, e.attempts, data⟩ })
      ∨ s.writeRecord l e o data = s := by
  unfold State.writeRecord
  split
  · exact .inl ⟨_, _, ‹_›, ‹_›, rfl⟩
  · exact .inr rfl

/-- A direct request completes at the head of its queue (R76). -/
theorem State.directDone_cases (s : State) (h : HostId) (e : Execution) (o : StepOutcome) (data : List Byte) :
    (s.directQueue h = [] ∧ s.directDone h e o data = s)
      ∨ ∃ r rest, s.directQueue h = r :: rest
          ∧ s.directDone h e o data
            = (s.setDirectQueue h rest).queueEvent h
              (.directDone r.hostTag o e.attempts (if e.step.asks ≠ 0 ∧ o = .done then some data else none)) := by
  unfold State.directDone
  cases hq : s.directQueue h with
  | nil => exact .inl ⟨rfl, rfl⟩
  | cons r rest => exact .inr ⟨r, rest, rfl, rfl⟩

/-- A counted result ends the step or enters retry wait (R105, R106). -/
theorem State.countResult_cases (s : State) (e : Execution) (r : AttemptResult) (silenced : Bool) :
    let f := { e with attempts := e.attempts + 1 }
    (r.final = true ∧ s.countResult e r silenced = s.stepEnd f r.outcome (keptData f r))
      ∨ (r.final = false ∧ silenced = true ∧ s.countResult e r silenced = s.stepEnd f .stationSilent [])
      ∨ (r.final = false ∧ silenced = false ∧ (e.limit ≤ e.attempts + 1 ∨ s.lastAttempt f = true)
        ∧ s.countResult e r silenced = s.stepEnd f r.outcome [])
      ∨ (r.final = false ∧ silenced = false ∧ e.attempts + 1 < e.limit ∧ s.lastAttempt f = false
        ∧ s.countResult e r silenced = s.retryWait f) := by
  unfold State.countResult
  dsimp only
  cases hf : r.final
  · cases silenced
    · by_cases h : e.limit ≤ e.attempts + 1 ∨ s.lastAttempt { e with attempts := e.attempts + 1 } = true
      · exact .inr (.inr (.inl ⟨rfl, rfl, h, by simp [h]⟩))
      · refine .inr (.inr (.inr ⟨rfl, rfl, by omega, by simpa using fun hl => h (.inr hl), by simp [h]⟩))
    · exact .inr (.inl ⟨rfl, rfl, by simp⟩)
  · exact .inl ⟨rfl, by simp⟩

/-- Without a holder, or with the link in a state other than IDLE, no attempt begins (R59, R87). -/
theorem State.drive_idle (n : Nat) (s : State) (h : s.exec = none ∨ s.link ≠ .idle) : State.drive n s = s := by
  cases n with
  | zero => rfl
  | succ n =>
    unfold State.drive
    rcases h with h | h
    · simp [h]
    · cases s.exec <;> simp [h]

end Sys2Proof.Machine
end

