-- ==== Sys2Proof/Tests/Slice0.lean ====
section
/-! SUPPORT. Checks of the model on small states: ill-formed commands that the check of well-formedness refuses, bytes
written out from the tables of R173 to R175, one step of the commands with results taken from the manual's worked
sequences and tables, and for each statement with hypotheses a state that meets them, clause by clause. -/

namespace Sys2Proof.Tests
open Sys2Proof Sys2Proof.Machine

set_option Elab.async false

/-! ### Small states -/

/-- The part out of power-on: every port IDLE, the link OFF. -/
def up : State := { State.reset with porLow := false, ports := fill 4 { Port.fresh with state := .idle } }

/-- A lane of host 3 in a run state. -/
def mine (r : RunState) : Lane := { Lane.fresh with condition := .owned 3, run := r }

/-- Lane 7 holds the lane given. -/
def at7 (x : Lane) : State := up.setLane 7 x

/-- Host 3 holds the lease. -/
def leased : State := { up with lease := some 3, leaseLeft := 5 }

/-- A READ, a WRITE and a BROADCAST at the ends of their ranges. -/
def aRead : Machine.Step := .read 3 30 0xFF#8 8 (some 63)
def aWrite : Machine.Step := .write 3 30 0xFF#8 [1, 2] none
def aCast : Machine.Step := .broadcast 0 0x00#8 [7] none

/-- A lane of host 3 at its step, in its pass, with write bank 0. -/
def atStep (r : RunState) (st : Machine.Step) : Lane := { mine r with program := [st], write := some 0 }

/-- The step is in execution for a holder, with the attempts given used, its attempt in flight. -/
def running (w : Holder) (st : Machine.Step) (used limit : Nat) : Execution :=
  ⟨w, st, limit, 2, used, true, true, ⟨[], false⟩⟩

/-- The one step of lane 7 is on the line, in a link state. -/
def onLine (x : Lane) (st : Machine.Step) (link : LinkState) : State :=
  { at7 x with link := link, segment := 3, exec := some (running (.lane 7) st 0 3) }

/-- A direct request. -/
def asked (st : Machine.Step) : DirectRequest := ⟨st, 3, 2, 0x5A#8, 0, false, none⟩

/-- The one direct request of host 3. -/
def direct3 (st : Machine.Step) : State := { up.setDirectQueue 3 [asked st] with link := .idle }

/-- Host 3's direct request is on the line. -/
def directOn (st : Machine.Step) (link : LinkState) : State :=
  { direct3 st with link := link, segment := 3, exec := some (running (.direct 3) st 0 3) }

/-- Host 3's port in a state. -/
def port3 (p : PortState) : State := up.setPort 3 { Port.fresh with state := p }

/-- Host 3's port in a frame. -/
def framed (p : PortState) (f : FrameState) (expiry : Nat) : State :=
  up.setPort 3 { Port.fresh with state := p, frame := f, expiry := expiry }

/-- A response without values. -/
def answer : Response := ⟨.ok, 0x01#8, .nothing⟩

/-- The state after a command, where it has one. -/
def after (i : Instr) (s : State) : State :=
  match exec i s with
  | .next t => t
  | _ => s

/-- The response at host 3's port. -/
def answer3 (s : State) : Option Response :=
  match (s.port 3).state with
  | .ready r => some r
  | _ => none

/-! ### Ill-formed commands -/

theorem test_wf_claim_of_lane_FF : (Instr.laneClaim 0 0 (.fits (.lane 0xFF#8))).wf = false := by decide +kernel
theorem test_wf_append_of_no_step : (Instr.progAppend 0 0 (.fits ⟨0, []⟩)).wf = false := by decide +kernel
theorem test_wf_append_of_five_steps :
    (Instr.progAppend 0 0 (.fits ⟨0, List.replicate 5 (.brk 0)⟩)).wf = false := by decide +kernel
theorem test_wf_append_unknown_before_the_last :
    (Instr.progAppend 0 0 (.fits ⟨0, [.unknown 6 [], .brk 0]⟩)).wf = false := by decide +kernel
theorem test_wf_append_too_long :
    (Instr.progAppend 0 0 (.fits ⟨0, [.write 0 0 0 0 (List.replicate 244 0)]⟩)).wf = false := by decide +kernel
theorem test_wf_unknown_of_a_known_kind :
    (Instr.progInsert 0 0 (.fits ⟨0, 0, .unknown 5 []⟩)).wf = false := by decide +kernel
theorem test_wf_write_data_over_a_byte : (RawStep.write 0 0 0 0 (List.replicate 256 0)).wf = false := by decide +kernel
theorem test_wf_broadcast_data_over_a_byte : (RawStep.broadcast 0 0 0 (List.replicate 256 0)).wf = false := by decide +kernel
theorem test_wf_insert_too_long :
    (Instr.progInsert 0 0 (.fits ⟨0, 0, .unknown 6 (List.replicate 248 0)⟩)).wf = false := by decide +kernel
theorem test_wf_replace_too_long :
    (Instr.progReplace 0 0 (.fits ⟨0, 0, .unknown 6 (List.replicate 248 0)⟩)).wf = false := by decide +kernel
theorem test_wf_patch_too_long :
    (Instr.progPatch 0 0 (.fits ⟨0, 0, List.replicate 248 0⟩)).wf = false := by decide +kernel
theorem test_wf_config_too_long :
    (Instr.laneConfig 0 0 (.fits ⟨0, List.replicate 125 (.mode 0)⟩)).wf = false := by decide +kernel
theorem test_wf_direct_too_long :
    (Instr.directSubmit 0 0 (.fits ⟨1, 1, 0, .unknown 6 (List.replicate 247 0)⟩)).wf = false := by decide +kernel
theorem test_wf_settings_too_long :
    (Instr.settingsWrite 0 0 (.fits (List.replicate 126 (.lineRate 0)))).wf = false := by decide +kernel
theorem test_wf_poll_payload_over_a_byte : (Instr.poll 0 0 (List.replicate 256 0) 0).wf = false := by decide +kernel

/-! ### Bytes written out from R161, R173 to R175 -/

/-- The manual's example check bytes. -/
theorem test_crc_of_poll : crc [0x00#8, 0x00#8, 0x00#8] = 0x00#8 ∧ crc [0x00#8, 0x01#8, 0x00#8] = 0x15#8 := by decide +kernel
theorem test_poll_frames : frameBytes 0x00#8 0x00#8 [] = [0x00#8, 0x00#8, 0x00#8, 0x00#8]
    ∧ parseFrame [0x00#8, 0x01#8, 0x00#8, 0x15#8, 0xAA#8] = some (0x00#8, 0x01#8, []) := by decide +kernel
theorem test_decode_claim : decodeRequest 1 9 0x10#8 [0xFF#8] .high = some (.laneClaim 1 9 (.fits .any))
    ∧ decodeRequest 1 9 0x10#8 [0x07#8] .high = some (.laneClaim 1 9 (.fits (.lane 7))) := by decide +kernel
theorem test_decode_config :
    decodeRequest 1 9 0x14#8 [0x00#8, 0x02#8, 0x02#8, 0x33#8, 0x06#8, 0x08#8] .high
      = some (.laneConfig 1 9 (.fits ⟨0, [.source 2 0x33#8, .limit 8]⟩)) := by decide +kernel
theorem test_decode_append :
    decodeRequest 1 9 0x20#8 [0x00#8, 0x02#8, 0x01#8, 0x02#8, 0x0A#8, 0x04#8, 0x01#8, 0x55#8, 0x05#8, 0x77#8] .high
      = some (.progAppend 1 9 (.fits ⟨0, [.write 1 2 0x0A#8 4 [0x55#8], .brk 0x77#8]⟩)) := by decide +kernel
theorem test_decode_append_cut_short :
    decodeRequest 1 9 0x20#8 [0x00#8, 0x02#8, 0x01#8, 0x02#8, 0x0A#8, 0x04#8, 0x02#8, 0x55#8] .high
      = some (.progAppend 1 9 .misfit) := by decide +kernel
theorem test_decode_query_options :
    decodeRequest 1 9 0x19#8 [0x03#8, 0x01#8] .high = some (.laneQueryClear 1 9 (.fits 3))
      ∧ decodeRequest 1 9 0x19#8 [0x03#8, 0x02#8] .high = some (.laneQuery 1 9 .misfit) := by decide +kernel
theorem test_decode_result_read :
    decodeRequest 1 9 0x30#8 [0x00#8, 0x00#8, 0x40#8, 0x01#8, 0x02#8] .high
      = some (.resultRead 1 9 (.fits ⟨0, 0, 64, some 0x0102#16⟩)) := by decide +kernel
theorem test_decode_mask :
    decodeRequest 1 9 0x39#8 [0x3F#8, 0xFE#8, 0x01#8] .high = some (.eventMask 1 9 (.fits ⟨0x3FFE#16, 1⟩)) := by decide +kernel
theorem test_decode_direct :
    decodeRequest 1 9 0x40#8 [0x08#8, 0x01#8, 0x5A#8, 0x01#8, 0x03#8, 0x1E#8, 0xFF#8, 0x08#8, 0xFF#8] .high
      = some (.directSubmit 1 9 (.fits ⟨8, 1, 0x5A#8, .read 3 30 0xFF#8 8 0xFF#8⟩)) := by decide +kernel
theorem test_decode_timer :
    decodeRequest 1 9 0x58#8 [0x00#8, 0x01#8, 0x00#8, 0x64#8] .high
      = some (.timerSet 1 9 (.fits ⟨0, 1, some 0x0064#16⟩)) := by decide +kernel
theorem test_decode_settings :
    decodeRequest 1 9 0x59#8 [0x01#8, 0x02#8, 0x09#8, 0x01#8, 0x00#8] .high
      = some (.settingsWrite 1 9 (.fits [.lineRate 2, .quota 3 0x0100#16])) := by decide +kernel
theorem test_decode_link_enable : decodeRequest 1 9 0x48#8 [] .low = some (.linkEnable 1 9 (.fits ()) .low)
    ∧ decodeRequest 1 9 0x01#8 [] .low = none := by decide +kernel
/-- R83: the header of a WRITE to station 5 with toggle 1 is 5 in bits 7 to 3, 01 and 1. -/
theorem test_field_frame :
    ((⟨.probe, .write 1 5 0x0A#8 [0x11#8, 0x22#8] none, 3, 2, 0, false, true, ⟨[0x11#8, 0x22#8], true⟩⟩ :
      Execution).fieldFrame).take 5 = [0x2B#8, 0x0A#8, 0x02#8, 0x11#8, 0x22#8] := by decide +kernel
theorem test_device_query_bytes :
    Reply.bytes up 0 (.device ⟨256, 0, .off, none⟩)
      = [0x0A#8, 0x48#8, 0x01#8, 0x01#8, 0x00#8, 0, 0, 0, 0, 0x00#8, 0x00#8, 0xFF#8] := by decide +kernel

/-! ### One step of the commands -/

theorem test_powerOn : ((after .powerOn (at7 (mine .armed))).lane 7, (after .powerOn (at7 (mine .armed))).porLow)
    = (Lane.fresh, true) := by decide +kernel
theorem test_powerOnRelease : ((after .powerOnRelease State.reset).port 3).state = .idle := by decide +kernel
theorem test_portResetRelease :
    ((after (.portResetRelease 3) (port3 .inReset)).port 3).state = .idle
      ∧ ((after (.portResetRelease 3) State.reset).port 3).state = .inReset := by decide +kernel

/-- The manual's sequence "Owner port reset mid-pass, and adoption": lane 5 of H3, a READ in AWAIT_REPLY. -/
def orphaning : State :=
  { up.setLane 5 { mine .running with
      program := List.replicate 10 aRead
      position := 4
      pending := true
      overrun := 3
      generation := 220
      front := some 1
      write := some 2
      subscribers := put (put (fill 4 false) 0 true) 3 true } with
    usage := put (put (fill 4 0) 3 10) 2 30
    link := .awaitReply false
    exec := some (running (.lane 5) aRead 0 3) }

theorem test_portReset_orphans :
    let s := after (.portReset 3) orphaning
    ((s.lane 5).condition, (s.lane 5).run, (s.lane 5).position, s.usageOf 3, s.usageOf 2) = (.orphan, .stopping, 4, 0, 30)
      ∧ (s.lane 5).subscribers = put (fill 4 false) 0 true
      ∧ [0, 1, 2].all (fun h => (s.mailbox h).queue == [⟨0, .laneOrphaned 5⟩]) = true := by decide +kernel
theorem test_replyEnd_ends_an_orphans_pass :
    let s := after (.replyEnd (.bytes 0x5A#8 (List.replicate 8 0 ++ [crc (0x5A#8 :: List.replicate 8 0)])))
      { after (.portReset 3) orphaning with link := .receiving }
    ((s.lane 5).run, (s.lane 5).position, (s.lane 5).write, (s.lane 5).pending, (s.lane 5).overrun, (s.lane 5).generation)
      = (.idle, 0, none, false, 3, 220)
      ∧ (s.bank 5 2).records[63] = ⟨some .done, 1, List.replicate 8 0⟩ := by decide +kernel
theorem test_laneAdopt :
    answer3 (after (.laneAdopt 3 1 (.fits 5)) (up.setLane 5 { mine .idle with
      condition := .orphan
      program := List.replicate 10 aRead })) = some ⟨.ok, 1, .adopted 10 10⟩ := by decide +kernel
theorem test_laneAdopt_over_quota :
    answer3 (after (.laneAdopt 3 1 (.fits 5)) { up.setLane 5 { mine .idle with
      condition := .orphan
      program := List.replicate 10 aRead } with usage := fill 4 60 }) = some ⟨.quota, 1, .nothing⟩ := by decide +kernel

/-- The sequence "Bringing the line up". -/
theorem test_leaseTake : ((after (.leaseTake 3 1 (.fits ())) up).lease, answer3 (after (.leaseTake 3 1 (.fits ())) up))
    = (some 3, some ⟨.ok, 1, .leaseTaken⟩) := by decide +kernel
theorem test_settingsWrite :
    let s := after (.settingsWrite 3 1 (.fits [.lineRate 2, .replyTimeout 6])) leased
    (s.settings.lineRate, s.settings.replyTimeout, s.settings.segmentGuard) = (.k500, 6, 5) := by decide +kernel
theorem test_settingsWrite_named_twice :
    answer3 (after (.settingsWrite 3 1 (.fits [.lineRate 2, .lineRate 2])) leased) = some ⟨.badArgument, 1, .nothing⟩ := by
  decide +kernel
theorem test_linkEnable :
    let s := after (.linkEnable 3 1 (.fits ()) .high) leased
    (s.link, s.segment, s.phaseLeft, answer3 s)
      = (.lineReset .segmentGuard, 0, 50, some ⟨.ok, 1, .link (.lineReset .segmentGuard)⟩) := by decide +kernel
theorem test_lineResetHoldEnd :
    let s := after (.lineResetHoldEnd .high) { (up.setStation 0 0 ⟨true, 9, true⟩) with
      link := .lineReset .hold
      segment := 3 }
    (s.link, s.segment, s.station 0 0) = (.idle, 3, ⟨false, 0, false⟩) := by decide +kernel
theorem test_lineResetHoldEnd_low :
    let s := after (.lineResetHoldEnd .low) { up with link := .lineReset .hold, segment := 2 }
    (s.link, s.segment, (s.mailbox 0).queue) = (.faulted, 2, [⟨0, .linkFault⟩]) := by decide +kernel

/-- The sequence "Building and arming a scan lane". -/
theorem test_laneClaim_any : answer3 (after (.laneClaim 3 1 (.fits .any)) up) = some ⟨.ok, 1, .claimed 0⟩ := by
  decide +kernel
theorem test_progAppend :
    answer3 (after (.progAppend 3 1 (.fits ⟨7, List.replicate 4 (.read 0 1 0 2 0)⟩)) (at7 (mine .idle)))
      = some ⟨.ok, 1, .edited 4 4 252⟩ := by decide +kernel
theorem test_progAppend_station_31 :
    answer3 (after (.progAppend 3 1 (.fits ⟨7, [.read 0 31 0 2 0]⟩)) (at7 (mine .idle)))
      = some ⟨.badArgument, 1, .nothing⟩ := by decide +kernel
theorem test_laneConfig :
    let s := after (.laneConfig 3 1 (.fits ⟨7, [.source 1 0x00#8, .mode 1]⟩)) (at7 (mine .idle))
    (s.lane 7).config = { LaneConfig.default with source := .timer 0, mode := .continuous } := by decide +kernel
theorem test_laneArm :
    let s := after (.laneArm 3 1 (.fits 7)) (at7 { mine .halted with program := [aRead], position := 1 })
    ((s.lane 7).run, (s.lane 7).position, answer3 s) = (.armed, 0, some ⟨.ok, 1, .armed 1⟩) := by decide +kernel
theorem test_timerSet :
    (after (.timerSet 3 1 (.fits ⟨0, 1, some 100⟩)) leased).timer 0 = ⟨100, true, 10000⟩ := by decide +kernel
theorem test_resultRead_no_data :
    answer3 (after (.resultRead 3 1 (.fits ⟨7, 0, 6, some 0⟩)) (at7 (mine .armed))) = some ⟨.noData, 1, .nothing⟩ := by
  decide +kernel
theorem test_timerExpiry_starts_a_pass :
    let s := after (.timerExpiry 0) { at7 { mine .armed with
      config := { LaneConfig.default with source := .timer 0 } } with timers := fill 4 ⟨100, true, 0⟩ }
    ((s.lane 7).run, (s.lane 7).position, (s.lane 7).write, (s.timer 0).left) = (.ready, 0, some 0, 10000) := by
  decide +kernel
theorem test_grant :
    let s := after (.grant .high) { at7 (atStep .ready aRead) with link := .idle }
    ((s.lane 7).run, s.link, s.segment, look s.lanePtr 0) = (.running, .switching, 3, some 7) := by decide +kernel

/-- The sequence "Two readers and BANK_WAIT": at 6.0 ms banks 0 and 1 are pinned and bank 2 is front; at 9.0 ms the pin on
bank 0 is released. -/
def readers : State :=
  ((at7 { mine .armed with front := some 2, generation := 8 }).setPort 2 { Port.fresh with
    state := .ready ⟨.ok, 1, .results 7 0 0 1⟩
    pin := some (7, 0) }).setPort 0 { Port.fresh with
    state := .ready ⟨.ok, 1, .results 7 1 0 1⟩
    pin := some (7, 1) }

theorem test_laneRun_waits_for_a_bank :
    let s := after (.laneRun 3 1 (.fits 7)) readers
    ((s.lane 7).run, (s.lane 7).write, answer3 s) = (.bankWait, none, some ⟨.ok, 1, .ran .started .bankWait⟩) := by
  decide +kernel
theorem test_responseExpiry_releases_the_pin :
    let s := after (.responseExpiry 2) (after (.laneRun 3 1 (.fits 7)) readers)
    ((s.lane 7).run, (s.lane 7).write, (s.port 2).pin, (s.port 2).sticky.expired) = (.ready, some 0, none, true) := by
  decide +kernel

/-- The sequence "Preemption under CONTINUE and under RESTART": step 2 of lane 4 ends DONE as lane 6 waits. -/
def preempted (r : ResumePolicy) : State :=
  { (up.setLane 4 { mine .running with
      config := { LaneConfig.default with resume := r }
      program := List.replicate 5 (.read 0 1 0 1 (some 2))
      position := 2
      errorCount := 1
      write := some 0 }).setLane 6 { atStep .ready aRead with config := { LaneConfig.default with priority := 2 } } with
    link := .receiving
    exec := some (running (.lane 4) (.read 0 1 0 1 (some 2)) 0 3) }

theorem test_replyEnd_preempts :
    let reply : Instr := .replyEnd (.bytes 0x5A#8 [0x00#8, crc [0x5A#8, 0x00#8]])
    let c := after reply (preempted .continue)
    let r := after reply (preempted .restart)
    ((c.lane 4).run, (c.lane 4).position, (c.lane 4).errorCount, (c.lane 6).run) = (.suspended, 3, 1, .running)
      ∧ ((r.lane 4).run, (r.lane 4).position, (r.lane 4).errorCount, (r.lane 6).run) = (.suspended, 0, 0, .running)
      ∧ (c.bank 4 0).records[2].outcome = some .done ∧ (r.bank 4 0).records[2].outcome = none := by decide +kernel

/-- The sequence "A write retried after a lost ACCEPT": the first attempt fails its check, the second is accepted. -/
def retried (used : Nat) : State :=
  { (up.setLane 2 { mine .running with
      program := [.write 1 5 0 [1, 2] (some 9), aRead]
      write := some 0 }).setStation 1 5 ⟨false, used, true⟩ with
    link := .receiving
    exec := some ⟨.lane 2, .write 1 5 0 [1, 2] (some 9), 3, 20, used, true, true, ⟨[1, 2], true⟩⟩ }

theorem test_replyEnd_check_fail :
    let s := after (.replyEnd (.bytes 0x5A#8 [0x00#8])) (retried 0)
    ((s.lane 2).run, (s.lane 2).retryLeft, s.station 1 5, s.link) = (.retryWait, 1000, ⟨false, 1, true⟩, .gap) := by
  decide +kernel
theorem test_replyEnd_accept :
    let s := after (.replyEnd (.bytes 0x5A#8 [crc [0x5A#8]])) (retried 1)
    ((s.lane 2).position, s.station 1 5, (s.bank 2 0).records[9]) = (1, ⟨false, 0, false⟩, ⟨some .done, 2, []⟩) := by
  decide +kernel

/-! Results read from the rules' tables. -/

theorem test_frameStart : ((after (.frameStart 3) leased).port 3).frame = .inFrame ⟨.clear, false, false, [0x10#8]⟩ := by
  decide +kernel
theorem test_frameEnd_takes_a_request :
    answer3 (after (.frameEnd 3 (frameBytes 0x10#8 0x01#8 [0xFF#8]) .high)
      (framed .idle (.inFrame ⟨.clear, false, false, [0]⟩) 0)) = some ⟨.ok, 1, .claimed 0⟩ := by decide +kernel
theorem test_laneStop_off_the_line :
    let s := after (.laneStop 3 1 (.fits 7)) (at7 { atStep .suspended aRead with position := 0, pending := true })
    ((s.lane 7).run, (s.lane 7).write, (s.lane 7).pending, (s.mailbox 3).queue, answer3 s)
      = (.idle, none, false, [⟨0, .passAbandoned 7 0⟩], some ⟨.ok, 1, .stopped .suspended⟩) := by decide +kernel
theorem test_laneStop_on_the_line :
    let s := after (.laneStop 3 1 (.fits 7)) (onLine (atStep .running aRead) aRead (.awaitReply false))
    ((s.lane 7).run, (s.port 3).state) = (.stopping, .busy ⟨1, .laneStop 7⟩) := by decide +kernel
theorem test_progPatch :
    ((after (.progPatch 3 1 (.fits ⟨7, 0, [9]⟩)) (at7 (atStep .stopping aWrite))).lane 7).program
      = [.write 3 30 0xFF#8 [9] none] := by decide +kernel
theorem test_eventFetch :
    answer3 (after (.eventFetch 3 1 (.fits 4)) (up.setMailbox 3 { Mailbox.fresh with
      queue := List.replicate 5 ⟨0, .linkFault⟩
      lost := 2 })) = some ⟨.ok, 1, .events 4 2 1⟩ := by decide +kernel
theorem test_directSubmit_copy :
    answer3 (after (.directSubmit 3 1 (.fits ⟨1, 1, 0, .copy 0 0 0 0 0 0xFF#8⟩)) up)
      = some ⟨.badArgument, 1, .nothing⟩ := by decide +kernel
theorem test_trgSample_edge :
    let s := after (.trgSample 1 .high) { at7 { mine .idle with
      run := .armed
      config := { LaneConfig.default with source := .edge 1 .rising } } with samplers := fill 4 ⟨some .low, some .high⟩ }
    ((s.lane 7).run, look s.samplers 1) = (.ready, ⟨some .high, some .high⟩) := by decide +kernel
theorem test_gapEnd_disable :
    let s := after (.gapEnd .high) { port3 (.busy ⟨1, .linkOff⟩) with link := .gap, disableWaiting := true }
    (s.link, answer3 s) = (.off, some ⟨.ok, 1, .link .off⟩) := by decide +kernel
/-- Host 3's lease has run out. -/
def lapsed : State := { leased with leaseLeft := 0 }

theorem test_leaseExpiry : ((after .leaseExpiry lapsed).lease, ((after .leaseExpiry lapsed).mailbox 3).queue)
    = (none, [⟨0, .leaseExpired⟩]) := by decide +kernel
/-- R153: a renewal taken first starts the time again, and the expiry does not occur. -/
theorem test_leaseExpiry_behind_a_renewal :
    (after .leaseExpiry (after (.leaseRenew 3 1 (.fits ())) lapsed)).lease = some 3 := by decide +kernel
/-- R55: a period written first starts the timer again, and the expiry does not occur. -/
theorem test_timerExpiry_behind_a_period :
    let s := { at7 { mine .armed with config := { LaneConfig.default with source := .timer 0 } } with
      timers := fill 4 ⟨100, true, 0⟩
      lease := some 3 }
    let t := after (.timerExpiry 0) (after (.timerSet 3 1 (.fits ⟨0, 1, some 7⟩)) s)
    ((t.lane 7).run, t.timer 0) = (.armed, ⟨7, true, 700⟩) := by decide +kernel
theorem test_probeTimerExpiry :
    (after .probeTimerExpiry { up with probe := ⟨false, some 0, none⟩ }).probe = ⟨true, none, none⟩ := by decide +kernel
/-- R84: the first low bit stops the timeout; a malformed mark ends the reply from AWAIT_REPLY, with a frame fault. -/
theorem test_replyStartMark :
    let s := onLine (atStep .running aRead) aRead (.awaitReply false)
    let t := after .replyStartMark s
    let u := after (.replyEnd .malformedMark) t
    ((after .replyTimeout t).link, (after .replyStartMark t).link) = (.awaitReply true, .receiving)
      ∧ (u.link, (u.lane 7).run, u.station 3 30) = (.gap, .retryWait, ⟨false, 1, false⟩) := by decide +kernel
/-- The state after a number of steps. -/
def steps : Nat → State → State
  | 0, s => s
  | n + 1, s => match step s with
    | .next t => steps n t
    | _ => s

/-- R94: with no reading of FDA low taken, the recovery watch runs out by itself and the line reset begins; one taken in
between starts the watch again. -/
theorem test_recovery_from_a_fault :
    let s := { up with link := .faulted, fda := .low, watchLeft := 2, faultAnnounced := true }
    ((steps 3 s).link, (steps 3 s).segment, (steps 2 s).pending) = (.lineReset .segmentGuard, 0, [.recoveryWatchExpiry])
      ∧ ((steps 2 { s with pending := [.recoveryWatchRestart] }).link,
        (steps 2 { s with pending := [.recoveryWatchRestart] }).watchLeft) = (.faulted, 9999) := by decide +kernel
/-- R36, R41: an orphan in STOPPING ends by its reply with nothing queued. -/
theorem test_replyEnd_in_an_orphan :
    let x := { atStep .stopping aRead with condition := .orphan }
    let s := after (.replyEnd (.bytes 0x0F#8 [crc [0x0F#8]])) (onLine x aRead .receiving)
    ((s.lane 7).run, (s.lane 7).write, (s.bank 7 0).records[63].outcome, (s.mailbox 3).queue)
      = (.idle, none, some .refused, []) := by decide +kernel
/-- R161, R171: the response with its check byte, and filler after it; filler alone from a port in reset. -/
theorem test_frameStart_sends :
    let p := (after (.frameStart 3) (port3 (.ready answer))).port 3
    (List.range 8).map p.sends = [0x80#8, 0x00#8, 0x01#8, 0x00#8, 0x00#8, crc [0, 1, 0, 0], 0xFF#8, 0xFF#8].map some
      ∧ ((after (.frameStart 3) (port3 .inReset)).port 3).sends 0 = some 0xFF#8 := by decide +kernel

/-! ### Witnesses: for each statement with hypotheses, a state and operands for each of its clauses -/

theorem witness_StepRunsTheCommandInFront :
    { up with pending := [.powerOn, .leaseExpiry] }.pending = [.powerOn, .leaseExpiry] :=
  rfl

theorem witness_StepWithNothingWaiting :
    (State.reset.pending = [] ∧ State.reset.porLow = true)
      ∧ ({ up with chainDue := [7] }.pending = [] ∧ { up with chainDue := [7] }.porLow = false)
      ∧ (direct3 aRead).grantPoint = true ∧ (direct3 aRead).porLow = false ∧ (direct3 aRead).chainDue = []
      ∧ (up.porLow = false ∧ up.chainDue = [] ∧ up.grantPoint = false ∧ up.directQueue 3 = [])
      ∧ (let s := directOn aRead .sending
        s.pending = [] ∧ s.porLow = false ∧ s.chainDue = [] ∧ s.grantPoint = false ∧ s.directQueue 3 = [asked aRead]) := by
  decide +kernel

/-- A state far from power-on that meets every law: lane 7 is RUNNING on its second write, the step in SENDING. -/
def sound : State :=
  { at7 (atStep .running aWrite) with
    link := .sending
    segment := 3
    exec := some (running (.lane 7) aWrite 1 3)
    freeCount := 255
    usage := put (fill 4 0) 3 1
    pending := [.frameFullySent] }

theorem witness_EveryStepKeepsThePool :
    sound.PoolOk ∧ step sound = .next (after .frameFullySent { sound with pending := [] }) := ⟨by decide +kernel, rfl⟩
theorem witness_EveryStepKeepsTheBanks :
    sound.BanksOk ∧ step sound = .next (after .frameFullySent { sound with pending := [] }) := ⟨by decide +kernel, rfl⟩
theorem witness_EveryStepKeepsResetPortsEmpty :
    (sound.setPort 0 Port.fresh).ResetPortsOk
      ∧ step (sound.setPort 0 Port.fresh)
        = .next (after .frameFullySent { sound.setPort 0 Port.fresh with pending := [] }) := ⟨by decide +kernel, rfl⟩
theorem witness_EveryStepKeepsTheCounts :
    sound.CountsOk ∧ step sound = .next (after .frameFullySent { sound with pending := [] }) := ⟨by decide +kernel, rfl⟩
theorem witness_EveryStepKeepsTheLink :
    sound.LinkOk ∧ step sound = .next (after .frameFullySent { sound with pending := [] }) := ⟨by decide +kernel, rfl⟩
theorem witness_EveryStepKeepsTheLanes :
    sound.LanesOk ∧ step sound = .next (after .frameFullySent { sound with pending := [] }) := ⟨by decide +kernel, rfl⟩

theorem witness_RequestEncodingDecodesToItself :
    let i : Instr := .linkEnable 3 9 (.fits ()) .low
    let j : Instr := .progPatch 3 9 (.fits ⟨255, 255, List.replicate 247 1⟩)
    (i.wf = true ∧ encodeRequest i = some ⟨3, 9, 0x48#8, []⟩ ∧ readsFda i .low = true)
      ∧ (j.wf = true ∧ encodeRequest j = some ⟨3, 9, 0x25#8, 255 :: 255 :: 247 :: List.replicate 247 1⟩
        ∧ readsFda j .high = true) := by decide +kernel

theorem witness_RequestBytesAreReadBack :
    (List.replicate 250 (0 : Byte)).length ≤ 250
      ∧ ([1] : List Byte).length ≤ (1#8 : Byte).toNat ∧ 250 < (251#8 : Byte).toNat
      ∧ ([0x01#8] : List Byte)[(0#8 : Byte).toNat]? ≠ some (crc (0x10#8 :: 0#8 :: 0#8 :: [0x01#8].take 0)) := by
  decide +kernel

/-- A frame that brings only a request, and one that began with the response at the port. -/
def plain : Frame := ⟨.clear, false, false, [0x00#8]⟩
def bearing : Frame := ⟨.clear, true, true, [0x80#8, 0, 1, 0, 0, 0]⟩

theorem witness_FrameEndTakesItsRequest :
    let i : Instr := .laneClaim 3 9 (.fits .any)
    let fetched : Response := ⟨.ok, 1, .events 1 255 0⟩
    let s (r : Response) := framed (.ready r) (.inFrame bearing) 9
    let bytes := frameBytes 0x10#8 9 [0xFF#8]
    (((framed .idle (.inFrame plain) 0).port 3).frame = .inFrame plain ∧ plain.carries = false ∧ i.wf = true
        ∧ encodeRequest i = some ⟨3, 9, 0x10#8, [0xFF#8]⟩ ∧ readsFda i .high = true)
      ∧ (((s answer).port 3).frame = .inFrame bearing ∧ bearing.carries = true ∧ ((s answer).port 3).state = .ready answer
        ∧ bytes.length < bearing.out.length)
      ∧ (((s fetched).port 3).frame = .inFrame bearing ∧ ((s fetched).port 3).state = .ready fetched
        ∧ bearing.out.length ≤ (bytes ++ [0]).length ∧ fetched.reply = .events 1 255 0)
      ∧ answer.reply = .nothing := by decide +kernel

theorem witness_FrameEndWithoutARequest :
    let s := framed .idle (.inFrame plain) 0
    let w (e : Nat) := framed (.ready answer) (.inFrame bearing) e
    let fetched : Response := ⟨.ok, 1, .events 1 255 0⟩
    let b := framed (.busy ⟨1, .linkOff⟩) (.inFrame plain) 0
    let unknown := frameBytes 0x01#8 9 [5]
    let paid := frameBytes 0x00#8 9 [5]
    ((framed .inReset .ignored 0).port 3).frame = .ignored
      ∧ ((s.port 3).frame = .inFrame plain ∧ plain.carries = false)
      ∧ (((w 1).port 3).frame = .inFrame bearing ∧ ((w 1).port 3).expiry ≠ 0)
      ∧ (((w 0).port 3).frame = .inFrame bearing ∧ bearing.carries = true ∧ ((w 0).port 3).expiry = 0
        ∧ ((w 0).port 3).state = .ready answer)
      ∧ parseFrame (frameBytes 0x00#8 9 []) = some (0x00#8, 9, [])
      ∧ (s.accepts 3 = true ∧ ([0x10#8] : List Byte) ≠ [] ∧ parseFrame [0x10#8] = none)
      ∧ (parseFrame unknown = some (0x01#8, 9, [5]) ∧ (0x01#8 : Byte) ≠ 0x00#8
        ∧ decodeRequest 3 9 0x01#8 [5] .high = none)
      ∧ (parseFrame paid = some (0x00#8, 9, [5]) ∧ ([5] : List Byte) ≠ [])
      ∧ ([unknown, paid].all fun bytes => bytes.length < bearing.out.length
        && parseFrame (bytes ++ [0]) == parseFrame bytes && bearing.out.length ≤ (bytes ++ [0]).length) = true
      ∧ (parseFrame (List.replicate 6 (0xFF#8 : Byte)) = none ∧ bearing.out.length ≤ (List.replicate 6 (0xFF#8 : Byte)).length)
      ∧ (((framed (.ready fetched) (.inFrame bearing) 1).port 3).state = .ready fetched ∧ fetched.reply = .events 1 255 0
        ∧ answer.reply = .nothing)
      ∧ ((b.port 3).frame = .inFrame plain ∧ (b.port 3).isBusy = true ∧ parseFrame [0x10#8] = none) := by decide +kernel

theorem witness_FrameBeginsWithTheStatusByte :
    ((framed .inReset .none 0).port 3).frame = .none ∧ ((framed .inReset .none 0).port 3).state = .inReset
      ∧ (((framed (.ready answer) .none 9).port 3).frame = .none
        ∧ ((framed (.ready answer) .none 9).port 3).state = .ready answer)
      ∧ ((framed .idle .none 0).port 3).frame = .none ∧ ((framed .idle .none 0).port 3).state ≠ .inReset
      ∧ ((framed .idle .none 0).port 3).isReady = false
      ∧ ((framed .idle (.inFrame plain) 0).port 3).frame = .inFrame plain ∧ plain.statusDone = false := by decide +kernel

theorem witness_FrameEndSettlesTheResponse :
    let fetched : Response := ⟨.ok, 1, .events 1 255 0⟩
    let s (r : Response) := framed (.ready r) (.inFrame bearing) 9
    let bytes := frameBytes 0x00#8 9 []
    (((s fetched).port 3).frame = .inFrame bearing ∧ bearing.carries = true ∧ ((s fetched).port 3).state = .ready fetched
        ∧ bytes ≠ [] ∧ parseFrame bytes = some (0x00#8, 9, []) ∧ bytes.length < bearing.out.length)
      ∧ (bearing.out.length ≤ (bytes ++ [0, 0]).length ∧ fetched.reply = .events 1 255 0
        ∧ parseFrame (bytes ++ [0, 0]) = some (0x00#8, 9, []))
      ∧ ((s answer).port 3).frame = .inFrame bearing ∧ ((s answer).port 3).state = .ready answer
      ∧ answer.reply = .nothing := by decide +kernel

theorem witness_PollAndExpiry :
    let s (f : FrameState) (e : Nat) := framed (.ready answer) f e
    (((s .none 0).port 3).state = .ready answer ∧ ((s .none 0).port 3).frame = .none ∧ ((s .none 0).port 3).expiry = 0)
      ∧ (((s (.inFrame plain) 0).port 3).frame = .inFrame plain ∧ plain.carries = false
        ∧ ((s (.inFrame plain) 0).port 3).state = .ready answer ∧ ((s (.inFrame plain) 0).port 3).expiry = 0)
      ∧ (((s (.inFrame bearing) 0).port 3).frame = .inFrame bearing ∧ bearing.carries = true)
      ∧ (up.port 3).isReady = false ∧ ((s .none 1).port 3).expiry ≠ 0 := by decide +kernel

theorem witness_ResponseReplacesTheUnreadOne :
    (up.port 3).isReady = false ∧ ((port3 (.ready answer)).port 3).state = .ready answer := by decide +kernel

/-- Lane 7 waits for a bank while hosts 1, 2 and 3 pin the banks given. -/
def waiting (front : Option BankId) (a b : BankId) : State :=
  (((at7 { mine .bankWait with front := front, waiting := true }).setPort 1 { Port.fresh with pin := some (7, a) }).setPort
    2 { Port.fresh with pin := some (7, b) }).setPort 3 { Port.fresh with pin := some (7, 2) }

theorem witness_ReleasedPinEndsAWait :
    (up.port 3).pin = none
      ∧ (let s := readers
        (s.port 2).pin = some (7, 0) ∧ (s.lane 7).waiting = false)
      ∧ (let s := waiting (some 2) 0 1
        let u := s.setPort 3 { s.port 3 with pin := none }
        (s.port 3).pin = some (7, 2) ∧ (s.lane 7).waiting = true
          ∧ ∀ d : BankId, (s.lane 7).front = some d ∨ u.pinned 7 d = true)
      ∧ (let s := waiting (some 1) 0 0
        let u := s.setPort 3 { s.port 3 with pin := none }
        (s.port 3).pin = some (7, 2) ∧ (s.lane 7).waiting = true ∧ (s.lane 7).front ≠ some 2 ∧ u.pinned 7 2 = false
          ∧ ∀ d : BankId, d < 2 → (s.lane 7).front = some d ∨ u.pinned 7 d = true) := by decide +kernel

theorem witness_RequestsThatAreNotTaken :
    let i : Instr := .laneArm 3 9 (.fits 8)
    i.asked = some (3, 9) ∧ ((port3 .inReset).port 3).state = .inReset
      ∧ ((port3 (.busy ⟨1, .linkOff⟩)).port 3).isBusy = true
      ∧ (up.accepts 3 = true ∧ i.laneByte = some 8 ∧ 8 ≤ (8#8 : Byte).toNat)
      ∧ (Instr.laneArm 3 9 .misfit).asked = some (3, 9) ∧ (Instr.laneArm 3 9 .misfit).misfits = true := by decide +kernel

theorem witness_OwnerOnlyRequestsAreRefused :
    let i : Instr := .laneArm 3 9 (.fits 7)
    (i.asked = some (3, 9) ∧ i.ownerOnly = true ∧ i.laneByte = some 7 ∧ (7#8 : Byte).toNat = (7 : LaneId).val
        ∧ i.ranged = true)
      ∧ (up.accepts 3 = true ∧ (up.lane 7).owner ≠ some 3)
      ∧ ((at7 (mine .stopping)).accepts 3 = true ∧ ((at7 (mine .stopping)).lane 7).owner = some 3
        ∧ ((at7 (mine .stopping)).lane 7).run = .stopping ∧ i.actsInStopping = false) := by decide +kernel

theorem witness_RequestsAreAnsweredUnderTheirTag :
    (Instr.deviceQuery 3 9 (.fits ())).asked = some (3, 9) ∧ up.accepts 3 = true := by decide +kernel

/-- Host 3 owns lane 7, on the line, and lane 0, in its retry wait. -/
def owning : State := sound.setLane 0 { atStep .retryWait aWrite with held := some ⟨1, true⟩ }

theorem witness_PortResetClearsTheHost :
    owning.LanesOk ∧ ((owning.lane 7).owner = some 3 ∧ owning.laneInFlight 7 = true)
      ∧ ((owning.lane 0).owner = some 3 ∧ (owning.lane 0).run ≠ .stopping ∧ owning.laneInFlight 0 = false)
      ∧ (owning.lane 1).owner ≠ some 3 ∧ (0 : HostId) ≠ 3 := ⟨by decide +kernel, by decide +kernel⟩

theorem witness_PowerAndResetReleases :
    (State.reset.port 3).state = .inReset ∧ State.reset.porLow = true := by decide +kernel

theorem witness_LaneClaimAndRelease :
    let n : Byte := 7#8
    let full := { up with lanes := fill 8 (mine .running) }
    (n.toNat = (7 : LaneId).val ∧ up.accepts 3 = true ∧ (up.lane 7).condition = .free)
      ∧ (full.accepts 3 = true ∧ (full.lane 7).condition ≠ .free ∧ ∀ m : LaneId, (full.lane m).condition ≠ .free)
      ∧ ((full.setLane 7 .fresh).accepts 3 = true ∧ ((full.setLane 7 .fresh).lane 7).condition = .free
        ∧ ∀ m : LaneId, m < 7 → ((full.setLane 7 .fresh).lane m).condition ≠ .free)
      ∧ (((at7 (mine .halted)).lane 7).owner = some 3 ∧ ((at7 (mine .halted)).lane 7).run = .halted)
      ∧ ((full.lane 7).owner = some 3 ∧ (full.lane 7).run ≠ .idle ∧ (full.lane 7).run ≠ .halted) := by decide +kernel

theorem witness_LaneHandoverAndAdopt :
    let s (q : Nat) := { at7 { mine .halted with program := [aRead] } with
      settings := { Settings.default with quota := fill 4 q } }
    let o (q : Nat) := (s q).setLane 7 { mine .idle with condition := .orphan, program := [aRead] }
    ((7#8 : Byte).toNat = (7 : LaneId).val ∧ (3#8 : Byte).toNat = (3 : HostId).val ∧ (0#8 : Byte).toNat = (0 : HostId).val)
      ∧ (4 ≤ (4#8 : Byte).toNat ∧ (up.lane 7).owner ≠ some 3 ∧ up.accepts 3 = true)
      ∧ ((at7 (mine .stopping)).accepts 3 = true ∧ ((at7 (mine .stopping)).lane 7).owner = some 3
        ∧ ((at7 (mine .stopping)).lane 7).run = .stopping)
      ∧ ((s 0).accepts 3 = true ∧ ((s 0).lane 7).owner = some 3 ∧ ((s 0).lane 7).run ≠ .stopping)
      ∧ ((0 : HostId) ≠ 3 ∧ ((s 0).setPort 0 Port.fresh).inReset 0 = true ∧ ((s 0).setPort 0 Port.fresh).accepts 3 = true)
      ∧ ((s 0).inReset 0 = false ∧ (s 0).quotaOf 0 < (s 0).usageOf 0 + ((s 0).lane 7).program.length)
      ∧ (s 1).usageOf 0 + ((s 1).lane 7).program.length ≤ (s 1).quotaOf 0
      ∧ (up.lane 7).condition ≠ .orphan
      ∧ (((o 0).lane 7).condition = .orphan ∧ ((o 0).lane 7).run = .idle ∧ (o 0).accepts 3 = true
        ∧ (o 0).quotaOf 3 < (o 0).usageOf 3 + ((o 0).lane 7).program.length)
      ∧ (o 1).usageOf 3 + ((o 1).lane 7).program.length ≤ (o 1).quotaOf 3 := by decide +kernel

/-- The ranges of a LANE_CONFIG entry, as the statement spells them. -/
def configInRange : RawConfig → Bool
  | .priority v => v.toNat ≤ 3
  | .mode v | .resume v | .onError v => v.toNat ≤ 1
  | .limit v => 1 ≤ v.toNat && v.toNat ≤ 8
  | .interval v => 1 ≤ v.toNat
  | .source k d =>
    (k == 0x00#8 && d == 0x00#8) || (k == 0x01#8 && d.toNat / 16 ≤ 3 && d.toNat % 16 == 0)
      || (k == 0x02#8 && d.toNat / 16 ≤ 3 && 1 ≤ d.toNat % 16 && d.toNat % 16 ≤ 3)
      || (k == 0x03#8 && d.toNat / 16 ≤ 7 && d.toNat % 16 == 0)

theorem witness_LaneConfigSetsItsFields :
    let all : List RawConfig := [.priority 3, .source 2 0x33#8, .mode 1, .resume 1, .onError 1, .limit 8, .interval 1]
    ((7#8 : Byte).toNat = (7 : LaneId).val ∧ (at7 (mine .idle)).accepts 3 = true)
      ∧ ((all.map RawConfig.ident).Nodup ∧ ∀ e ∈ all, configInRange e = true)
      ∧ (configInRange (.limit 9) = false ∧ configInRange (.source 1 0x40#8) = false)
      ∧ ¬([RawConfig.mode 0, .mode 1].map RawConfig.ident).Nodup
      ∧ [RawConfig.source 0 0x00#8, .source 1 0x30#8, .source 3 0x70#8].all configInRange = true
      ∧ ((up.lane 7).owner ≠ some 3 ∧ up.accepts 3 = true)
      ∧ (((at7 (mine .idle)).lane 7).owner = some 3 ∧ ((at7 (mine .idle)).lane 7).run = .idle)
      ∧ ((at7 (mine .armed)).lane 7).owner = some 3 ∧ ((at7 (mine .armed)).lane 7).run ≠ .idle
      ∧ ((at7 (mine .armed)).lane 7).run ≠ .halted := by decide +kernel

theorem witness_LaneArmAndDisarm :
    ((7#8 : Byte).toNat = (7 : LaneId).val ∧ up.accepts 3 = true ∧ (up.lane 7).owner ≠ some 3)
      ∧ [RunState.idle, .halted, .armed, .bankWait, .ready, .running, .suspended, .retryWait, .atBreak, .stopping].all
        (fun r => (at7 (mine r)).accepts 3 && ((at7 (mine r)).lane 7).owner == some 3 && ((at7 (mine r)).lane 7).run == r)
        = true
      ∧ ((at7 (mine .idle)).lane 7).program = []
      ∧ ((at7 (atStep .halted aRead)).lane 7).program ≠ [] ∧ ((at7 (atStep .halted aRead)).lane 7).owner = some 3 := by
  decide +kernel

theorem witness_ArrivalActsByRunState :
    [RunState.idle, .halted, .armed, .bankWait, .ready, .running, .suspended, .retryWait, .atBreak, .stopping].all
        (fun r => (at7 (mine r)).accepts 3 && ((at7 (mine r)).lane 7).run == r && ((at7 (mine r)).lane 7).pending == false
          && ((at7 (mine r)).lane 7).owner == some 3) = true
      ∧ (let s := at7 { mine .armed with front := some 0 }
        (s.lane 7).front ≠ some 1 ∧ s.pinned 7 1 = false
          ∧ ∀ c : BankId, c < 1 → (s.lane 7).front = some c ∨ s.pinned 7 c = true)
      ∧ ((readers.lane 7).run = .armed ∧ ∀ c : BankId, (readers.lane 7).front = some c ∨ readers.pinned 7 c = true)
      ∧ (let s (n : Nat) := at7 { mine .ready with pending := true, overrun := n }
        ((s 255).lane 7).pending = true ∧ ((s 255).lane 7).overrun ≠ 0 ∧ ((s 0).lane 7).overrun = 0
          ∧ ((s 0).lane 7).owner = some 3)
      ∧ (7#8 : Byte).toNat = (7 : LaneId).val ∧ (up.lane 7).owner ≠ some 3 := by decide +kernel

theorem witness_LaneStop :
    [RunState.idle, .halted, .armed, .bankWait, .ready, .suspended, .retryWait, .atBreak, .stopping].all
        (fun r => (at7 (mine r)).accepts 3 && ((at7 (mine r)).lane 7).run == r && ((at7 (mine r)).lane 7).held == none
          && ((at7 (mine r)).lane 7).owner == some 3) = true
      ∧ (7#8 : Byte).toNat = (7 : LaneId).val
      ∧ (let s := at7 { atStep .retryWait aWrite with held := some ⟨2, true⟩ }
        (s.lane 7).run = .retryWait ∧ (s.lane 7).held = some ⟨2, true⟩
          ∧ (s.lane 7).program[(s.lane 7).position]? = some aWrite ∧ (s.lane 7).owner = some 3 ∧ s.accepts 3 = true)
      ∧ (let s := onLine (atStep .running aWrite) aWrite .sending
        (s.lane 7).run = .running ∧ (s.lane 7).owner = some 3 ∧ s.accepts 3 = true
          ∧ s.exec = some (running (.lane 7) aWrite 0 3) ∧ (running (.lane 7) aWrite 0 3).inFlight = true)
      ∧ (let e := { running (.lane 7) aWrite 0 3 with inFlight := false }
        let s := { onLine (atStep .running aWrite) aWrite .gap with exec := some e }
        (s.lane 7).run = .running ∧ (s.lane 7).owner = some 3 ∧ s.accepts 3 = true ∧ e.holder = .lane 7
          ∧ s.exec = some e ∧ e.inFlight = false ∧ (s.lane 7).held = none
          ∧ ∀ k : HostId, (s.port k).waitsFor ≠ some (.laneStop 7)) := by decide +kernel

theorem witness_LaneQuery :
    (7#8 : Byte).toNat = (7 : LaneId).val ∧ up.accepts 3 = true ∧ (up.lane 7).owner ≠ some 3
      ∧ (at7 (mine .stopping)).accepts 3 = true ∧ ((at7 (mine .stopping)).lane 7).owner = some 3 := by decide +kernel

/-- Lane 7 of host 3 with a program of some length, a quota and a free count. -/
def edited (r : RunState) (len quota free : Nat) : State :=
  { at7 { mine r with program := List.replicate len aWrite } with
    freeCount := free
    settings := { Settings.default with quota := fill 4 quota } }

/-- The caller owns lane 7 in this state, in the run state given. -/
def mayEdit (s : State) (r : RunState) : Bool :=
  s.accepts 3 && (s.lane 7).owner == some 3 && (s.lane 7).run == r && (7#8 : Byte).toNat == (7 : LaneId).val

theorem witness_ProgAppend :
    let raw : RawStep := .read 3 30 0xFF#8 8 63
    mayEdit (edited .armed 64 64 0) .armed = true
      ∧ ([] : List RawStep).length = 0 ∧ 4 < (List.replicate 5 raw).length
      ∧ (mayEdit (edited .ready 0 64 0) .ready = true ∧ 1 ≤ [raw].length ∧ [raw].length ≤ 4)
      ∧ (∃ r ∈ [RawStep.read 4 0 0 1 0], validStep r = none)
      ∧ ((List.replicate 4 raw).map validStep = (List.replicate 4 aRead).map some ∧ (List.replicate 4 raw).length ≤ 4)
      ∧ 64 < ((edited .idle 61 64 0).lane 7).program.length + 4
      ∧ (((edited .idle 60 3 0).lane 7).program.length + 4 ≤ 64
        ∧ (edited .idle 60 3 0).quotaOf 3 < (edited .idle 60 3 0).usageOf 3 + 4)
      ∧ ((edited .idle 60 4 3).usageOf 3 + 4 ≤ (edited .idle 60 4 3).quotaOf 3 ∧ (edited .idle 60 4 3).freeCount < 4)
      ∧ ((edited .idle 60 4 4).usageOf 3 + 4 ≤ (edited .idle 60 4 4).quotaOf 3 ∧ 4 ≤ (edited .idle 60 4 4).freeCount
        ∧ mayEdit (edited .idle 60 4 4) .idle = true) := by decide +kernel

theorem witness_ProgInsertAndReplace :
    let raw : RawStep := .read 3 30 0xFF#8 8 63
    mayEdit (edited .suspended 1 1 1) .suspended = true
      ∧ (mayEdit (edited .halted 63 1 1) .halted = true ∧ validStep (.read 4 0 0 1 0) = none)
      ∧ ((edited .halted 63 1 1).lane 7).program.length < (64#8 : Byte).toNat
      ∧ ((edited .halted 63 1 1).lane 7).program.length ≤ (63#8 : Byte).toNat
      ∧ (validStep raw = some aRead ∧ (64#8 : Byte).toNat ≤ ((edited .halted 64 1 1).lane 7).program.length
        ∧ 64 < ((edited .halted 64 1 1).lane 7).program.length + 1)
      ∧ ((63#8 : Byte).toNat ≤ ((edited .halted 63 0 0).lane 7).program.length
        ∧ ((edited .halted 63 0 0).lane 7).program.length + 1 ≤ 64
        ∧ (edited .halted 63 0 0).quotaOf 3 < (edited .halted 63 0 0).usageOf 3 + 1)
      ∧ ((edited .halted 63 1 0).usageOf 3 + 1 ≤ (edited .halted 63 1 0).quotaOf 3 ∧ (edited .halted 63 1 0).freeCount = 0)
      ∧ 1 ≤ (edited .halted 63 1 1).freeCount
      ∧ (62#8 : Byte).toNat < ((edited .halted 63 1 1).lane 7).program.length := by decide +kernel

theorem witness_ProgRemoveAndClear :
    mayEdit (edited .running 1 1 1) .running = true
      ∧ (mayEdit (edited .idle 1 1 1) .idle = true ∧ ((edited .idle 1 1 1).lane 7).program.length ≤ (1#8 : Byte).toNat)
      ∧ (mayEdit (edited .armed 1 1 1) .armed = true ∧ (0#8 : Byte).toNat < ((edited .armed 1 1 1).lane 7).program.length
        ∧ ((edited .armed 1 1 1).lane 7).program.length = 1)
      ∧ (mayEdit (edited .armed 2 1 1) .armed = true ∧ (1#8 : Byte).toNat < ((edited .armed 2 1 1).lane 7).program.length
        ∧ ((edited .armed 2 1 1).lane 7).program.length ≠ 1)
      ∧ ((edited .armed 0 1 1).lane 7).program.length = 0 := by decide +kernel

theorem witness_ProgPatchAndRead :
    let s := at7 { mine .stopping with program := [aWrite, aCast, aRead] }
    (mayEdit s .stopping = true
        ∧ (s.lane 7).program[(0#8 : Byte).toNat]? = some (.write 3 30 0xFF#8 [1, 2] none)
        ∧ (s.lane 7).program[(1#8 : Byte).toNat]? = some (.broadcast 0 0x00#8 [7] none))
      ∧ (1 ≤ ([9] : List Byte).length ∧ (List.replicate 8 (0 : Byte)).length ≤ 8)
      ∧ (∀ y ∈ (s.lane 7).program[(2#8 : Byte).toNat]?, y.patchable = false)
      ∧ ([] : List Byte).length = 0 ∧ 8 < (List.replicate 9 (0 : Byte)).length
      ∧ (0#8 : Byte).toNat = 0 ∧ 4 < (5#8 : Byte).toNat ∧ 63 < (64#8 : Byte).toNat
      ∧ (1 ≤ (4#8 : Byte).toNat ∧ (4#8 : Byte).toNat ≤ 4 ∧ (63#8 : Byte).toNat ≤ 63 ∧ (up.lane 7).condition = .free)
      ∧ (s.lane 7).condition ≠ .free := by decide +kernel

theorem witness_ResultRead :
    let s := at7 { mine .armed with front := some 2, generation := 8 }
    ((7#8 : Byte).toNat = (7 : LaneId).val ∧ s.accepts 3 = true)
      ∧ ¬((63#8 : Byte).toNat ≤ 63 ∧ 1 ≤ (2#8 : Byte).toNat ∧ (2#8 : Byte).toNat ≤ 64
        ∧ (63#8 : Byte).toNat + (2#8 : Byte).toNat ≤ 64)
      ∧ ((63#8 : Byte).toNat ≤ 63 ∧ 1 ≤ (1#8 : Byte).toNat ∧ (1#8 : Byte).toNat ≤ 64
        ∧ (63#8 : Byte).toNat + (1#8 : Byte).toNat ≤ 64)
      ∧ (up.lane 7).condition = .free
      ∧ (((at7 (mine .armed)).lane 7).condition ≠ .free ∧ ((at7 (mine .armed)).lane 7).front = none)
      ∧ ((s.lane 7).condition ≠ .free ∧ (s.lane 7).front = some 2 ∧ some (8#16) = some (s.lane 7).generation)
      ∧ none ≠ some (s.lane 7).generation ∧ (s.port 3).isReady = false := by decide +kernel

theorem witness_ResultWatchAndUnwatch :
    (7#8 : Byte).toNat = (7 : LaneId).val ∧ up.accepts 3 = true ∧ (up.lane 7).condition = .free
      ∧ (at7 (mine .idle)).accepts 3 = true ∧ ((at7 (mine .idle)).lane 7).condition ≠ .free := by decide +kernel

theorem witness_EventFetchAndMask :
    up.accepts 3 = true ∧ (0#8 : Byte).toNat = 0 ∧ 4 < (5#8 : Byte).toNat ∧ 1 ≤ (4#8 : Byte).toNat
      ∧ (4#8 : Byte).toNat ≤ 4
      ∧ ((0x0001#16).getLsbD 0 = true ∧ (0x4000#16).getLsbD 14 = true ∧ (0x8000#16).getLsbD 15 = true)
      ∧ 1 < (2#8 : Byte).toNat
      ∧ ¬((0x3FFE#16).getLsbD 0 = true ∨ (0x3FFE#16).getLsbD 14 = true ∨ (0x3FFE#16).getLsbD 15 = true)
      ∧ (1#8 : Byte).toNat ≤ 1 := by decide +kernel

theorem witness_EventsJoinTheQueues :
    (up.port 3).state ≠ .inReset ∧ (up.mailbox 3).enable = true
      ∧ (up.mailbox 3).mask.getLsbD (EventBody.kind .leaseExpired) = true
      ∧ (State.reset.port 3).state = .inReset := by decide +kernel

theorem witness_DirectSubmitJoinsTheQueue :
    up.accepts 3 = true
      ∧ ¬(1 ≤ (9#8 : Byte).toNat ∧ (9#8 : Byte).toNat ≤ 8 ∧ 1 ≤ (1#8 : Byte).toNat)
      ∧ (1 ≤ (8#8 : Byte).toNat ∧ (8#8 : Byte).toNat ≤ 8 ∧ 1 ≤ (1#8 : Byte).toNat)
      ∧ RawStep.checked (.read 0 31 0 1 0xFF#8) = none
      ∧ (RawStep.checked (.write 3 30 0xFF#8 63 [1, 2]) = some (.write 3 30 0xFF#8 [1, 2] (some 63))
        ∧ Step.into (.write 3 30 0xFF#8 [1, 2] (some 63)) ≠ none)
      ∧ (RawStep.checked (.brk 0) = some (.brk 0) ∧ Step.segment (.brk 0) = none)
      ∧ (RawStep.checked (.copy 0 0 0 0 0 0xFF#8) = some (.copy 0 0 0 0 0 none)
        ∧ Step.operation (.copy 0 0 0 0 0 none) = 1 ∧ Step.patchable (.copy 0 0 0 0 0 none) = false)
      ∧ (RawStep.checked (.read 3 30 0xFF#8 8 0xFF#8) = some (.read 3 30 0xFF#8 8 none)
        ∧ Step.into (.read 3 30 0xFF#8 8 none) = none ∧ Step.asks (.read 3 30 0xFF#8 8 none) ≠ 0)
      ∧ (aWrite.into = none ∧ aWrite.patchable = true)
      ∧ 4 ≤ ((up.setDirectQueue 3 (List.replicate 4 (asked aWrite))).directQueue 3).length
      ∧ ((up.setDirectQueue 3 (List.replicate 3 (asked aWrite))).directQueue 3).length < 4 := by decide +kernel

theorem witness_LeaseChangesHands :
    (up.accepts 3 = true ∧ up.lease = none ∧ up.lease ≠ some 3)
      ∧ (leased.accepts 3 = true ∧ leased.lease = some 3)
      ∧ leased.accepts 0 = true ∧ leased.lease = some 3 ∧ (3 : HostId) ≠ 0 := by decide +kernel

/-- The ranges of a SETTINGS_WRITE entry, as the statement spells them. -/
def settingInRange : RawSetting → Bool
  | .lineRate v => v.toNat ≤ 3
  | .replyTimeout v => 2 ≤ v.toNat && v.toNat ≤ 50
  | .segmentGuard v => 1 ≤ v.toNat && v.toNat ≤ 100
  | .silentThreshold v => 1 ≤ v.toNat && v.toNat ≤ 15
  | .probeInterval v => 1 ≤ v.toNat
  | .quota _ w => w.toNat ≤ 256

theorem witness_SettingsWriteSetsItsFields :
    let all : List RawSetting := [.lineRate 3, .replyTimeout 50, .segmentGuard 100, .silentThreshold 15, .probeInterval 255,
      .quota 0 256, .quota 3 0]
    let used := { leased with usage := put (fill 4 0) 3 1 }
    ((all.map RawSetting.ident).Nodup ∧ ∀ e ∈ all, settingInRange e = true)
      ∧ (settingInRange (.replyTimeout 51) = false ∧ ¬([RawSetting.quota 0 1, .quota 0 2].map RawSetting.ident).Nodup)
      ∧ (up.accepts 3 = true ∧ up.lease ≠ some 3)
      ∧ (let s := { leased with link := .idle }
        s.accepts 3 = true ∧ s.lease = some 3 ∧ (3#8 : Byte) ≠ s.settings.lineRate.code ∧ s.link ≠ .off)
      ∧ (used.accepts 3 = true ∧ used.lease = some 3 ∧ used.link = .off ∧ (0#16).toNat < used.usageOf 3)
      ∧ (leased.accepts 3 = true ∧ leased.lease = some 3 ∧ leased.link = .off ∧ ∀ k : HostId, leased.usageOf k = 0)
      ∧ leased.probe.left ≠ none ∧ { leased with probe := ⟨true, none, none⟩ }.probe.left = none := by decide +kernel

theorem witness_SettingsReadAndDeviceQuery : up.accepts 3 = true := by decide +kernel

theorem witness_TimerSetByTheTable :
    let on := { leased with timers := fill 4 ⟨1, true, 0⟩ }
    leased.accepts 3 = true ∧ 3 < (4#8 : Byte).toNat ∧ 2 < (3#8 : Byte).toNat
      ∧ ((3#8 : Byte).toNat = (3 : Fin 4).val ∧ (2#8 : Byte).toNat ≤ 2 ∧ some (0xFFFF#16) ≠ some 0 ∧ up.lease ≠ some 3
        ∧ up.accepts 3 = true)
      ∧ (leased.lease = some 3 ∧ (leased.timer 3).running = false)
      ∧ on.lease = some 3 ∧ (on.timer 3).running = true ∧ on.accepts 3 = true ∧ (1#8 : Byte).toNat ≤ 1 := by
  decide +kernel

theorem witness_LinkEnableAndReset :
    (up.accepts 3 = true ∧ up.lease ≠ some 3)
      ∧ (leased.accepts 3 = true ∧ leased.lease = some 3 ∧ leased.link = .off ∧ leased.exec = none
        ∧ leased.disableWaiting = false)
      ∧ (let s := { leased with link := .idle }
        s.accepts 3 = true ∧ s.lease = some 3 ∧ s.link ≠ .off ∧ s.exec = none ∧ s.disableWaiting = false)
      ∧ (let s := { onLine (atStep .running aWrite) aWrite .sending with lease := some 3 }
        s.accepts 3 = true ∧ s.lease = some 3 ∧ s.link ≠ .off ∧ s.exec = some (running (.lane 7) aWrite 0 3)
          ∧ (s.lane 7).run = .running)
      ∧ (let s := { directOn aWrite .sending with lease := some 3 }
        s.accepts 3 = true ∧ s.lease = some 3 ∧ s.link ≠ .off ∧ s.exec = some (running (.direct 3) aWrite 0 3)
          ∧ s.directQueue 3 = [asked aWrite])
      ∧ (let s := { leased with link := .sending, exec := some (running .probe aRead 0 1), disableWaiting := true }
        s.accepts 3 = true ∧ s.lease = some 3 ∧ s.link ≠ .off ∧ s.exec = some (running .probe aRead 0 1)) := by
  decide +kernel

theorem witness_LinkDisable :
    (up.accepts 3 = true ∧ up.lease ≠ some 3) ∧ (leased.accepts 3 = true ∧ leased.lease = some 3 ∧ leased.link = .off)
      ∧ [LinkState.idle, .faulted].all (fun k => { leased with link := k }.accepts 3 && { leased with link := k }.link == k
        && { leased with link := k }.exec == none) = true
      ∧ (∀ k : HostId, (leased.port k).waitsFor ≠ some .linkOff)
      ∧ [LinkState.switching, .sending, .awaitReply false, .awaitReply true, .receiving].all (·.transacts) = true := by decide +kernel

theorem witness_TrgSamplesMakeEdges :
    let s (r v : Option Level) := { up with samplers := fill 4 ⟨r, v⟩ }
    up.porLow = false ∧ (s none (some .high)).porLow = false
      ∧ ((look (s none (some .high)).samplers 3).level = none ∧ (look (s none (some .high)).samplers 3).last = some .high)
      ∧ ((look up.samplers 3).level = none ∧ (look up.samplers 3).last ≠ some .high)
      ∧ (look (s (some .high) none).samplers 3).level = some .high
      ∧ ((look (s (some .low) none).samplers 3).level = some .low ∧ Level.low ≠ .high
        ∧ (look (s (some .low) none).samplers 3).last ≠ some .high)
      ∧ (look (s (some .low) (some .high)).samplers 3).last = some .high := by decide +kernel

theorem witness_ExpiriesAndChainTriggers :
    let on (left : Nat) := { up with timers := fill 4 ⟨1, true, left⟩ }
    (((on 0).timer 3).running = true ∧ ((on 0).timer 3).left = 0) ∧ (up.timer 3).running = false
      ∧ ((on 1).timer 3).left ≠ 0
      ∧ (7 : LaneId) ∈ { up with chainDue := [7] }.chainDue ∧ (7 : LaneId) ∉ up.chainDue
      ∧ ((at7 (mine .retryWait)).lane 7).run = .retryWait ∧ (up.lane 7).run ≠ .retryWait
      ∧ (direct3 aRead).directQueue 3 = [asked aRead] ∧ up.directQueue 3 = []
      ∧ (let s := { up with probe := ⟨false, some 0, none⟩ }
        s.porLow = false ∧ s.probe.left = some 0)
      ∧ up.probe.left ≠ some 0 ∧ (lapsed.lease = some 3 ∧ lapsed.leaseLeft = 0) ∧ up.lease = none
      ∧ leased.leaseLeft ≠ 0 := by
  decide +kernel

/-- Lane 7 waits for its grant in a free line, under an error policy, at the program given; the station of `aRead` is SILENT. -/
def waiting7 (p : ErrorPolicy) (program : List Machine.Step) (trigger : Bool) : State :=
  { (at7 { mine .ready with
      config := { LaneConfig.default with onError := p }
      program := program
      write := some 0
      pending := trigger }).setStation 3 30 ⟨true, 4, false⟩ with link := .idle }

/-- A COPY of a record of lane 6, which is FREE, and one of a record that is DONE in lane 5. -/
def emptyCopy : Machine.Step := .copy 0 1 0x00#8 6 3 none
def fullCopy : Machine.Step := .copy 3 30 0x00#8 5 3 none
def sourced (s : State) : State :=
  (s.setLane 5 { mine .idle with front := some 1 }).setBank 5 1 { s.bank 5 1 with
    records := put (fill 64 ⟨none, 0, []⟩) 3 ⟨some .done, 1, [4]⟩ }

/-- A lane's step as the grant puts it into execution. -/
def granted7 (st : Machine.Step) : Execution := ⟨.lane 7, st, 3, 2, 0, false, true, ⟨[], false⟩⟩

theorem witness_GrantBeginsAnAttempt :
    (let s := { at7 (atStep .ready aWrite) with link := .idle }
     (s.link = .idle ∧ s.exec = none ∧ s.bestCandidate = some (.lane 7)
        ∧ (s.lane 7).program[(s.lane 7).position]? = some aWrite ∧ aWrite.segment = some 3 ∧ s.silentFor aWrite = false)
      ∧ s.carries (granted7 aWrite) [1, 2])
      ∧ (let s := waiting7 .skip [] false
        s.exec = none ∧ s.bestCandidate = some (.lane 7) ∧ (s.lane 7).program[(s.lane 7).position]? = none)
      ∧ (let s := waiting7 .skip [.brk 9] false
        s.bestCandidate = some (.lane 7) ∧ (s.lane 7).program[(s.lane 7).position]? = some (.brk 9)
          ∧ (s.lane 7).pending = false)
      ∧ (let s := waiting7 .skip [.brk 9, aCast] true
        (s.bestCandidate = some (.lane 7) ∧ (s.lane 7).program[(s.lane 7).position]? = some (.brk 9)
            ∧ (s.lane 7).pending = true ∧ (s.lane 7).program[(s.lane 7).position + 1]? = some aCast
            ∧ aCast.segment = some 0 ∧ s.silentFor aCast = false)
          ∧ (s.setLane 7 { s.lane 7 with position := (s.lane 7).position + 1 }).carries (granted7 aCast) [7])
      ∧ [ErrorPolicy.skip, .halt].all (fun p =>
          let s := waiting7 p [aRead] false
          s.exec == none && s.bestCandidate == some (.lane 7)
            && (s.lane 7).program[(s.lane 7).position]? == some aRead && s.silentFor aRead && aRead.copies == false
            && (s.lane 7).config.onError == p) = true
      ∧ (let s := sourced (waiting7 .halt [fullCopy] false)
        (s.bestCandidate = some (.lane 7) ∧ s.silentFor fullCopy = true) ∧ s.carries (granted7 fullCopy) [4])
      ∧ (let s := waiting7 .skip [emptyCopy] false
        (s.bestCandidate = some (.lane 7) ∧ emptyCopy.copies = true) ∧ ∀ b, ¬s.carries (granted7 emptyCopy) b)
      ∧ 511 + 1 = driveRounds
      ∧ (let s := direct3 aWrite
        (s.link = .idle ∧ s.exec = none ∧ s.bestCandidate = some (.direct 3) ∧ s.directQueue 3 = [asked aWrite]
            ∧ aWrite.patchable = true ∧ aWrite.segment = some 3 ∧ s.silentFor aWrite = false)
          ∧ s.carries ⟨.direct 3, aWrite, 3, 2, 0, false, true, ⟨[], false⟩⟩ [1, 2])
      ∧ (let s := (direct3 aWrite).setStation 3 30 ⟨true, 4, false⟩
        s.exec = none ∧ s.bestCandidate = some (.direct 3) ∧ s.directQueue 3 = [asked aWrite]
          ∧ s.silentFor aWrite = true)
      ∧ (let s := { up.setStation 3 30 ⟨true, 4, false⟩ with link := .idle, probe := ⟨true, none, none⟩ }
        s.exec = none ∧ s.bestCandidate = some (.probe 3 30))
      ∧ up.grantPoint = false :=
  ⟨⟨by decide +kernel, .inl ⟨3, 30, 0xFF#8, none, rfl⟩⟩, by decide +kernel, by decide +kernel,
    ⟨by decide +kernel, .inr ⟨0, 0x00#8, none, rfl⟩⟩, by decide +kernel,
    ⟨by decide +kernel, by decide +kernel, 1, by decide +kernel, by decide +kernel, by decide +kernel, by decide +kernel,
      by decide +kernel⟩,
    ⟨by decide +kernel, fun _ h => h.1 (by decide +kernel)⟩, by decide +kernel, ⟨by decide +kernel, rfl⟩,
    by decide +kernel, by decide +kernel, by decide +kernel⟩

theorem witness_FrameGoesOutAndIsAwaited :
    let s (st : Machine.Step) (k : LinkState) := onLine (atStep .running st) st k
    let e (st : Machine.Step) := running (.lane 7) st 0 3
    (((s aWrite .switching).exec = some (e aWrite) ∧ (s aWrite .switching).link = .switching)
        ∧ (s aWrite .switching).carries (e aWrite) [1, 2])
      ∧ ([ErrorPolicy.skip, .halt].all (fun p =>
          let x := { atStep .running emptyCopy with config := { LaneConfig.default with onError := p } }
          let t := onLine x emptyCopy .switching
          t.exec == some (e emptyCopy) && t.link == .switching && emptyCopy.copies && (t.lane 7).run == .running
            && (t.lane 7).held == none && t.disableWaiting == false && (t.lane 7).config.onError == p) = true
        ∧ ∀ b, ¬(s emptyCopy .switching).carries (e emptyCopy) b)
      ∧ ([Condition.owned 3, .orphan].all (fun c => [false, true].all fun d =>
          let t := { (onLine { atStep .stopping emptyCopy with condition := c } emptyCopy .switching).setPort 3 { Port.fresh with
              state := if c == .orphan then .idle else .busy ⟨9, .laneStop 7⟩ } with disableWaiting := d }
          t.exec == some (e emptyCopy) && t.link == .switching && (t.lane 7).run == .stopping && (t.lane 7).held == none
            && (t.lane 7).condition == c && t.disableWaiting == d
            && (allHosts.all fun k => (t.port k).waitsFor != some (.laneStop 7) || (k == 3 && c == .owned 3))) = true)
      ∧ (8 ≠ 0 ∧ (e aRead).captured.data = [])
      ∧ ((s aCast .sending).exec = some (e aCast) ∧ (s aCast .sending).link = .sending ∧ (e aCast).step.isBroadcast = true
        ∧ (s aCast .sending).link ≠ .switching)
      ∧ ((s aWrite .sending).exec = some (e aWrite) ∧ (s aWrite .sending).link = .sending
        ∧ (e aWrite).step.isBroadcast = false)
      ∧ [false, true].all (fun m => (s aRead (.awaitReply m)).exec == some (e aRead)
        && (s aRead (.awaitReply m)).link == .awaitReply m) = true
      ∧ ∀ b, (s aRead .receiving).link ≠ .awaitReply b :=
  ⟨⟨by decide +kernel, .inl ⟨3, 30, 0xFF#8, none, rfl⟩⟩, ⟨by decide +kernel, fun _ h => h.1 (by decide +kernel)⟩,
    by decide +kernel, by decide +kernel, by decide +kernel, by decide +kernel, by decide +kernel, by decide +kernel⟩

theorem witness_RepliesAreJudged :
    ((0xFF#8 : Byte) ≠ 0x5A#8 ∧ (0xFF#8 : Byte) ≠ 0x3C#8 ∧ (0xFF#8 : Byte) ≠ 0x0F#8)
      ∧ (List.replicate 8 (0 : Byte)).length = 8 ∧ (List.replicate 8 (0 : Byte)).length < 8 + 1 := by decide +kernel

theorem witness_CountedFailureEntersRetryWait :
    let s (k : LinkState) := onLine (atStep .running aWrite) aWrite k
    let d (k : LinkState) := directOn aWrite k
    let links := [LinkState.awaitReply false, .awaitReply true, .receiving]
    (aWrite.station = some (3, 30) ∧ 0 + 1 < 3)
      ∧ links.all (fun k => (s k).exec == some (running (.lane 7) aWrite 0 3) && (s k).link == k
        && ((s k).station 3 30).silent == false && decide (((s k).station 3 30).failures + 1 < (s k).settings.silentThreshold)
        && decide ((s k).settings.silentThreshold ≤ 15) && ((s k).lane 7).run == .running) = true
      ∧ links.all (fun k => (d k).exec == some (running (.direct 3) aWrite 0 3) && (d k).link == k
        && (d k).directQueue 3 == [asked aWrite] && ((d k).station 3 30).silent == false) = true
      ∧ judgeReply aWrite.asks (.bytes 0x3C#8 [crc [0x3C#8]]) = .defer
      ∧ judgeReply aWrite.asks (.bytes 0x3C#8 [0x00#8]) = .checkFail
      ∧ judgeReply aWrite.asks .malformedMark = .frameFault := by decide +kernel

/-- Lane 7 stops, its held LANE_STOP waiting at host 3's port. -/
def stopping3 : State :=
  (onLine (atStep .stopping aWrite) aWrite .receiving).setPort 3 { Port.fresh with state := .busy ⟨9, .laneStop 7⟩ }

/-- Lane 7 without an owner, in STOPPING with its READ on the line. -/
def orphaned : State := onLine { atStep .stopping aRead with condition := .orphan } aRead .receiving

theorem witness_AcceptedReplyEndsTheStep :
    let ok : ReplyWire := .bytes 0x5A#8 [crc [0x5A#8]]
    let got : ReplyWire := .bytes 0x5A#8 (List.replicate 8 0 ++ [crc (0x5A#8 :: List.replicate 8 0)])
    let s := onLine (atStep .running aWrite) aWrite .receiving
    let r := onLine (atStep .running aRead) aRead .receiving
    let d := directOn aWrite .receiving
    let p := { up.setStation 3 30 ⟨true, 9, false⟩ with
      link := .receiving
      exec := some (running .probe (.read 3 30 0 1 none) 0 1) }
    (s.exec = some (running (.lane 7) aWrite 0 3) ∧ s.link = .receiving ∧ aWrite.station = some (3, 30)
        ∧ judgeReply aWrite.asks ok = .accept [] ∧ (s.station 3 30).silent = false ∧ (s.lane 7).run = .running
        ∧ aWrite.into = none)
      ∧ (r.exec = some (running (.lane 7) aRead 0 3) ∧ judgeReply aRead.asks got = .accept (List.replicate 8 0)
        ∧ aRead.into = some 63 ∧ (r.lane 7).write = some 0)
      ∧ (stopping3.exec = some (running (.lane 7) aWrite 0 3) ∧ stopping3.link = .receiving
        ∧ (stopping3.lane 7).run = .stopping ∧ (stopping3.lane 7).owner = some 3 ∧ (stopping3.lane 7).held = none
        ∧ (stopping3.port 3).state = .busy ⟨9, .laneStop 7⟩
        ∧ ∀ k : HostId, k ≠ 3 → (stopping3.port k).waitsFor ≠ some (.laneStop 7))
      ∧ (let t := (onLine (atStep .stopping aRead) aRead .receiving).setPort 3 (stopping3.port 3)
        t.exec = some (running (.lane 7) aRead 0 3) ∧ t.link = .receiving ∧ (t.lane 7).run = .stopping
          ∧ (t.lane 7).owner = some 3 ∧ (t.lane 7).held = none ∧ (t.port 3).state = .busy ⟨9, .laneStop 7⟩)
      ∧ (orphaned.exec = some (running (.lane 7) aRead 0 3) ∧ orphaned.link = .receiving
        ∧ (orphaned.lane 7).run = .stopping ∧ (orphaned.lane 7).owner = none ∧ (orphaned.lane 7).held = none
        ∧ (orphaned.station 3 30).silent = false
        ∧ ∀ k : HostId, (orphaned.port k).waitsFor ≠ some (.laneStop 7))
      ∧ (let t := { up with link := .receiving, exec := some (running .discarded aWrite 0 3) }
        t.exec = some (running .discarded aWrite 0 3) ∧ t.link = .receiving ∧ (t.station 3 30).silent = false)
      ∧ (d.exec = some (running (.direct 3) aWrite 0 3) ∧ d.link = .receiving ∧ d.directQueue 3 = [asked aWrite])
      ∧ (p.exec = some (running .probe (.read 3 30 0 1 none) 0 1) ∧ (p.station 3 30).silent = true
        ∧ judgeReply 1 (.bytes 0x5A#8 [0x00#8, crc [0x5A#8, 0x00#8]]) = .accept [0x00#8]) := by decide +kernel

theorem witness_FailedStepSkipsOrHalts :
    let refusal : ReplyWire := .bytes 0x0F#8 [crc [0x0F#8]]
    let into : Machine.Step := .read 3 30 0x00#8 8 (some 63)
    let x (r : RunState) (p : ErrorPolicy) : Lane :=
      { atStep r into with config := { LaneConfig.default with onError := p } }
    let s (p : ErrorPolicy) (k : LinkState) (used failures : Nat) :=
      { (onLine (x .running p) into k).setStation 3 30 ⟨false, failures, false⟩ with
        exec := some (running (.lane 7) into used 3) }
    let kinds := [LinkState.awaitReply false, .awaitReply true, .receiving]
    let t (k : LinkState) := (onLine (x .stopping .skip) into k).setPort 3 { Port.fresh with state := .busy ⟨9, .laneStop 7⟩ }
    let w (holder : Holder) (z : Station) := { up.setStation 3 30 z with
      link := .awaitReply false
      exec := some (running holder aWrite 0 1) }
    (judgeReply into.asks refusal = .refuse ∧ judgeReply into.asks (.bytes 0x3C#8 [crc [0x3C#8]]) = .defer
        ∧ judgeReply into.asks (.bytes 0x77#8 []) = .frameFault ∧ judgeReply into.asks (.bytes 0x5A#8 []) = .checkFail
        ∧ into.station = some (3, 30) ∧ into.into = some 63 ∧ aWrite.into = none)
      ∧ [ErrorPolicy.skip, .halt].all (fun p => kinds.all fun k =>
          (s p k 2 0).exec == some (running (.lane 7) into 2 3) && (s p k 2 0).link == k && ((s p k 2 0).lane 7).run == .running
            && ((s p k 2 0).lane 7).held == none && ((s p k 2 0).lane 7).config.onError == p
            && ((s p k 2 0).lane 7).write == some 0) = true
      ∧ (3 ≤ 2 + 1 ∧ (s .skip .receiving 2 0).station 3 30 = ⟨false, 0, false⟩
        ∧ ¬(s .skip .receiving 2 0).settings.silentThreshold ≤ min (0 + 1) 15)
      ∧ ((s .halt .receiving 0 3).exec = some (running (.lane 7) into 0 3)
        ∧ (s .halt .receiving 0 3).station 3 30 = ⟨false, 3, false⟩
        ∧ (s .halt .receiving 0 3).settings.silentThreshold ≤ min (3 + 1) 15)
      ∧ kinds.all (fun k => (t k).exec == some (running (.lane 7) into 0 3) && (t k).link == k
        && ((t k).lane 7).run == .stopping && ((t k).lane 7).owner == some 3 && ((t k).lane 7).held == none
        && (t k).port 3 == { Port.fresh with state := .busy ⟨9, .laneStop 7⟩ }) = true
      ∧ (∀ k : HostId, k ≠ 3 → ((t .receiving).port k).waitsFor ≠ some (.laneStop 7))
      ∧ (orphaned.exec = some (running (.lane 7) aRead 0 3) ∧ orphaned.link = .receiving ∧ aRead.station = some (3, 30)
        ∧ (orphaned.lane 7).run = .stopping ∧ (orphaned.lane 7).owner = none ∧ (orphaned.lane 7).held = none
        ∧ judgeReply aRead.asks refusal = .refuse ∧ ∀ k : HostId, (orphaned.port k).waitsFor ≠ some (.laneStop 7))
      ∧ (let d := { directOn aWrite .receiving with exec := some (running (.direct 3) aWrite 2 3) }
        d.exec = some (running (.direct 3) aWrite 2 3) ∧ d.link = .receiving ∧ d.directQueue 3 = [asked aWrite]
          ∧ aWrite.station = some (3, 30))
      ∧ [Holder.discarded, .probe].all (fun h => (w h ⟨false, 0, false⟩).exec == some (running h aWrite 0 1)
        && (w h ⟨true, 9, false⟩).link == .awaitReply false) = true := by decide +kernel

theorem witness_StepBoundaryOrder :
    let at_ (st : Machine.Step) (p : Bool) := at7 { atStep .running st with pending := p }
    let x (r : ResumePolicy) := { atStep .running aWrite with config := { LaneConfig.default with resume := r } }
    let low (r : ResumePolicy) := (at7 (x r)).setDirectQueue 3 [asked aRead]
    let behind (r : ResumePolicy) :=
      (at7 (x r)).setLane 5 { atStep .suspended aCast with config := { LaneConfig.default with priority := 3 } }
    (let s := at7 { atStep .running aRead with position := 1 }
     (s.lane 7).program[(s.lane 7).position]? = none)
      ∧ (((at_ (.brk 9) true).lane 7).program[((at_ (.brk 9) true).lane 7).position]? = some (.brk 9)
        ∧ ((at_ (.brk 9) true).lane 7).pending = true ∧ ((at_ (.brk 9) false).lane 7).pending = false)
      ∧ (((at_ aRead false).lane 7).program[((at_ aRead false).lane 7).position]? = some aRead ∧ aRead.segment ≠ none
        ∧ ¬((∃ k, (at_ aRead false).directWaits k = true)
          ∨ ∃ m, (((at_ aRead false).lane m).run = .ready ∨ ((at_ aRead false).lane m).run = .suspended)
            ∧ ((at_ aRead false).lane 7).config.priority < ((at_ aRead false).lane m).config.priority)
        ∧ ((at_ aRead false).lane 7).held = none)
      ∧ [ResumePolicy.continue, .restart].all (fun r => (low r).exec == none && (low r).directWaits 3
        && (low r).directQueue 3 == [asked aRead] && ((low r).lane 7).config.resume == r
        && ((low r).lane 7).write == some 0 && ((low r).lane 7).program[((low r).lane 7).position]? == some aWrite) = true
      ∧ (∀ k, (low .restart).directWaits k = true
        → turn 4 (low .restart).directPtr 3 ≤ turn 4 (low .restart).directPtr k)
      ∧ [ResumePolicy.continue, .restart].all (fun r => ((behind r).lane 5).run == .suspended
        && ((behind r).lane 7).config.resume == r && ((behind r).lane 7).write == some 0
        && ((behind r).lane 7).program[((behind r).lane 7).position]? == some aWrite
        && ((behind r).lane 5).program[((behind r).lane 5).position]? == some aCast) = true
      ∧ ((∀ k, (behind .restart).directWaits k = false) ∧ aCast.segment ≠ none
        ∧ ((behind .restart).lane 7).config.priority < ((behind .restart).lane 5).config.priority
        ∧ ∀ k, ((behind .restart).lane k).run = .ready ∨ ((behind .restart).lane k).run = .suspended → k = 5) := by
  decide +kernel

theorem witness_PassCompletionPublishes :
    let s (m : Mode) (p : Bool) (n : Nat) := at7 { atStep .running aRead with
      config := { LaneConfig.default with mode := m }
      pending := p
      overrun := n }
    [Mode.single, .continuous].all (fun m => [false, true].all fun p => [0, 255].all fun n =>
        ((s m p n).lane 7).write == some 0 && ((s m p n).lane 7).config.mode == m && ((s m p n).lane 7).pending == p
          && ((s m p n).lane 7).overrun == n && ((s m p n).lane 7).disarmAtEnd == false) = true := by decide +kernel

theorem witness_GapEndFreesTheLine :
    let idle (st : Machine.Step) : Execution := { running (.lane 7) st 0 3 with inFlight := false }
    let next (st : Machine.Step) (k : LinkState) : State :=
      { onLine (atStep .running st) st k with exec := some (idle st) }
    let cast (r : RunState) := onLine (atStep r aCast) aCast .gap
    (let s := { up with link := .gap }
     s.link = .gap ∧ s.exec = none ∧ s.disableWaiting = false ∧ up.link ≠ .gap)
      ∧ (let s := { up with link := .gap, disableWaiting := true }
        s.link = .gap ∧ s.exec = none ∧ s.disableWaiting = true)
      ∧ (((next aWrite .gap).exec = some (idle aWrite) ∧ (next aWrite .gap).link = .gap ∧ (idle aWrite).inFlight = false
          ∧ { next aWrite .gap with disableWaiting := true }.disableWaiting = true ∧ aWrite.segment = some 3
          ∧ (next aWrite .gap).silentFor aWrite = false)
        ∧ (next aWrite .gap).carries (idle aWrite) [1, 2])
      ∧ (let s := next aWrite .idle
        (s.exec = some (idle aWrite) ∧ s.link = .idle ∧ (idle aWrite).holder ≠ .probe ∧ s.fda = .high
            ∧ { s with fda := .low }.fda = .low ∧ s.segment = 3)
          ∧ s.carries (idle aWrite) [1, 2] ∧ { s with fda := .low }.carries (idle aWrite) [1, 2])
      ∧ (let s := (next aRead .idle).setStation 3 30 ⟨true, 4, false⟩
        s.exec = some (idle aRead) ∧ s.link = .idle ∧ s.silentFor aRead = true ∧ aRead.copies = false)
      ∧ (let s := next emptyCopy .idle
        (s.exec = some (idle emptyCopy) ∧ s.link = .idle ∧ emptyCopy.copies = true)
          ∧ ∀ b, ¬s.carries (idle emptyCopy) b)
      ∧ (let s := directOn aCast .gap
        s.link = .gap ∧ s.exec = some (running (.direct 3) aCast 0 3) ∧ s.disableWaiting = false
          ∧ aCast.isBroadcast = true ∧ s.directQueue 3 = [asked aCast])
      ∧ ((cast .running).exec = some (running (.lane 7) aCast 0 3) ∧ ((cast .running).lane 7).run = .running
        ∧ { cast .running with disableWaiting := true }.disableWaiting = true)
      ∧ (let s := (cast .stopping).setPort 3 { Port.fresh with state := .busy ⟨9, .laneStop 7⟩ }
        (s.lane 7).run = .stopping ∧ (s.lane 7).owner = some 3 ∧ (s.lane 7).held = none ∧ s.disableWaiting = false
          ∧ (s.port 3).state = .busy ⟨9, .laneStop 7⟩ ∧ ∀ k : HostId, k ≠ 3 → (s.port k).waitsFor ≠ some (.laneStop 7))
      ∧ (let s := (cast .stopping).setLane 7 { (cast .stopping).lane 7 with condition := .orphan }
        s.exec = some (running (.lane 7) aCast 0 3) ∧ s.link = .gap ∧ (s.lane 7).run = .stopping ∧ (s.lane 7).owner = none
          ∧ (s.lane 7).held = none ∧ ∀ k : HostId, (s.port k).waitsFor ≠ some (.laneStop 7))
      ∧ ([Holder.discarded, .probe].all fun h => [false, true].all fun d =>
          let s := { up with link := .gap, exec := some (running h aCast 0 3), disableWaiting := d }
          s.link == .gap && s.exec == some (running h aCast 0 3) && s.disableWaiting == d) = true :=
  ⟨by decide +kernel, by decide +kernel, ⟨by decide +kernel, .inl ⟨3, 30, 0xFF#8, none, rfl⟩⟩,
    ⟨by decide +kernel, .inl ⟨3, 30, 0xFF#8, none, rfl⟩, .inl ⟨3, 30, 0xFF#8, none, rfl⟩⟩, by decide +kernel,
    ⟨by decide +kernel, fun _ h => h.1 (by decide +kernel)⟩, by decide +kernel, by decide +kernel, by decide +kernel,
    by decide +kernel, by decide +kernel⟩

theorem witness_LineFaultAndLineReset :
    (let s := onLine (atStep .running aWrite) aWrite .switching
     s.disableWaiting = false ∧ s.link = .switching ∧ s.exec = some (running (.lane 7) aWrite 0 3)
      ∧ (s.lane 7).run = .running)
      ∧ (stopping3.exec = some (running (.lane 7) aWrite 0 3) ∧ (stopping3.lane 7).run = .stopping
        ∧ (stopping3.lane 7).owner = some 3 ∧ (stopping3.lane 7).held = none
        ∧ (stopping3.port 3).state = .busy ⟨9, .laneStop 7⟩
        ∧ ∀ k : HostId, k ≠ 3 → (stopping3.port k).waitsFor ≠ some (.laneStop 7))
      ∧ (let s := onLine { atStep .stopping aWrite with condition := .orphan } aWrite .sending
        s.exec = some (running (.lane 7) aWrite 0 3) ∧ (s.lane 7).run = .stopping ∧ (s.lane 7).owner = none
          ∧ (s.lane 7).held = none ∧ ∀ k : HostId, (s.port k).waitsFor ≠ some (.laneStop 7))
      ∧ (let s := directOn aWrite .sending
        s.disableWaiting = false ∧ s.link = .sending ∧ s.exec = some (running (.direct 3) aWrite 0 3)
          ∧ s.directQueue 3 = [asked aWrite] ∧ { s with disableWaiting := true }.disableWaiting = true)
      ∧ [Holder.probe, .discarded].all (fun h =>
        let s := { up with link := .sending, exec := some (running h aRead 0 1) }
        s.disableWaiting == false && s.link == .sending && s.exec == some (running h aRead 0 1)) = true
      ∧ [LinkState.lineReset .segmentGuard, .lineReset .drive, .lineReset .hold, .faulted].all
        (fun k => { up with link := k }.link == k && { up with link := k }.exec == none) = true
      ∧ (up.watchLeft = 0 ∧ { up with watchLeft := 10000 }.watchLeft ≠ 0)
      ∧ ({ up with segment := 3 }.segment = 3 ∧ { up with segment := 2 }.segment.val + 1 = (3 : SegmentId).val) := by
  decide +kernel

end Sys2Proof.Tests
end

section
/-! SUPPORT. TIMER_SET (R54): what its checks answer, what its table does to a timer, and the statement about it. -/

namespace Sys2Proof.Machine

/-! ### Requests at a port that takes them -/

/-- A port that takes a request is in neither of the two states that turn one away (R164, R171). -/
theorem State.state_of_accepts {s : State} {h : HostId} (ha : s.accepts h = true) :
    (s.port h).state ≠ .inReset ∧ ∀ q, (s.port h).state ≠ .busy q := by
  constructor
  · intro e
    simp [State.accepts, e] at ha
  · intro q e
    simp [State.accepts, e] at ha

theorem State.request_of_refusal {s : State} {h : HostId} {act : State → Verdict} {st : Status} (tag : Byte)
    (ha : s.accepts h = true) (hv : act s = refuse st) : s.request h tag act = s.respond h tag st .nothing := by
  obtain ⟨hReset, hBusy⟩ := State.state_of_accepts ha
  rw [refuse] at hv
  rcases s.request_cases h tag act with ⟨e, -⟩ | ⟨⟨q, e⟩, -⟩ | ⟨st', r, e, hreq⟩ | ⟨t, r, e, -⟩ | ⟨t, k, e, -⟩
  · exact absurd e hReset
  · exact absurd e (hBusy q)
  · obtain ⟨rfl, rfl⟩ : st' = st ∧ r = .nothing := by simpa [hv, eq_comm] using e
    exact hreq
  · simp [hv] at e
  · simp [hv] at e

theorem State.request_of_accept {s t : State} {h : HostId} {act : State → Verdict} {r : Reply} (tag : Byte)
    (ha : s.accepts h = true) (hv : act s = accept t r) : s.request h tag act = t.respond h tag .ok r := by
  obtain ⟨hReset, hBusy⟩ := State.state_of_accepts ha
  rw [accept] at hv
  rcases s.request_cases h tag act with ⟨e, -⟩ | ⟨⟨q, e⟩, -⟩ | ⟨st, r', e, -⟩ | ⟨t', r', e, hreq⟩ | ⟨t', k, e, -⟩
  · exact absurd e hReset
  · exact absurd e (hBusy q)
  · simp [hv] at e
  · obtain ⟨rfl, rfl⟩ : t' = t ∧ r' = r := by simpa [hv, eq_comm] using e
    exact hreq
  · simp [hv] at e

/-- A request of the lease holder is judged as if it had no holder check (R150). -/
theorem asHolder_of_holder {s : State} {h : HostId} (v : Verdict) (hl : s.lease = some h) : asHolder s h v = v :=
  if_pos hl

theorem asHolder_of_stranger {s : State} {h : HostId} (v : Verdict) (hl : s.lease ≠ some h) :
    asHolder s h v = refuse .noLease :=
  if_neg hl

/-! ### Reading the arguments -/

theorem small_eq_none {n : Nat} {b : Byte} (hb : n ≤ b.toNat) : small n b = none :=
  dif_neg (Nat.not_lt.mpr hb)

theorem small_eq_some {n : Nat} {b : Byte} {i : Fin n} (hb : b.toNat = i.val) : small n b = some i := by
  have hlt : b.toNat < n := hb ▸ i.isLt
  rw [small, dif_pos hlt]
  exact congrArg some (Fin.ext hb)

theorem timerCommand_eq_none {c : Byte} (hc : 2 < c.toNat) : timerCommand c = none := by
  unfold timerCommand
  split
  · omega
  · omega
  · omega
  · rfl

/-- The command codes below STOP are none and START. -/
theorem timerCommand_of_le_one {c : Byte} (hc : c.toNat ≤ 1) : ∃ k, timerCommand c = some k ∧ k ≠ .stop := by
  obtain h0 | h1 : c.toNat = 0 ∨ c.toNat = 1 := by omega
  · exact ⟨.none, by simp [timerCommand, h0]⟩
  · exact ⟨.start, by simp [timerCommand, h1]⟩

theorem timerCommand_of_le_two {c : Byte} (hc : c.toNat ≤ 2) : ∃ k, timerCommand c = some k := by
  obtain hlt | h2 : c.toNat ≤ 1 ∨ c.toNat = 2 := by omega
  · obtain ⟨k, hk, -⟩ := timerCommand_of_le_one hlt
    exact ⟨k, hk⟩
  · exact ⟨.stop, by simp [timerCommand, h2]⟩

/-! ### The table -/

/-- STOP leaves a timer stopped, whatever it did before. -/
theorem IntervalTimer.set_stop (x : IntervalTimer) (period : Option Nat) :
    x.set period .stop = ⟨period.getD x.period, false, 0⟩ := by
  obtain ⟨old, running, left⟩ := x
  cases running with
  | false => rfl
  | true => rfl

theorem IntervalTimer.set_none_of_stopped {x : IntervalTimer} (period : Option Nat) (hx : x.running = false) :
    x.set period .none = ⟨period.getD x.period, false, 0⟩ := by
  obtain ⟨old, running, left⟩ := x
  cases hx
  rfl

theorem IntervalTimer.set_start_of_stopped {x : IntervalTimer} (period : Option Nat) (hx : x.running = false) :
    x.set period .start = ⟨period.getD x.period, true, period.getD x.period * 100⟩ := by
  obtain ⟨old, running, left⟩ := x
  cases hx
  rfl

/-- Without a period, only STOP changes a running timer. -/
theorem IntervalTimer.set_of_running_keeps {x : IntervalTimer} {k : TimerCommand} (hx : x.running = true)
    (hk : k ≠ .stop) : x.set none k = x := by
  obtain ⟨old, running, left⟩ := x
  cases hx
  cases k with
  | none => rfl
  | start => rfl
  | stop => exact absurd rfl hk

/-- A period written to a running timer restarts its count; the old period plays no part. -/
theorem IntervalTimer.set_of_running_restarts {x : IntervalTimer} {k : TimerCommand} (p : Nat) (hx : x.running = true)
    (hk : k ≠ .stop) : x.set (some p) k = ⟨p, true, p * 100⟩ := by
  obtain ⟨old, running, left⟩ := x
  cases hx
  cases k with
  | none => rfl
  | start => rfl
  | stop => exact absurd rfl hk

/-! ### The verdict -/

theorem judgeTimerSet_of_bad_argument (h : HostId) {a : TimerArgs} (s : State)
    (hbad : 3 < a.timer.toNat ∨ 2 < a.command.toNat ∨ a.period = some 0) :
    judgeTimerSet h a s = refuse .badArgument := by
  unfold judgeTimerSet
  rcases hbad with ht | hc | hp
  · rw [small_eq_none ht]
  · rw [timerCommand_eq_none hc]
    cases small 4 a.timer <;> rfl
  · split
    · exact if_pos hp
    · rfl

/-- With arguments in range, only the lease is left to check before the table is applied. -/
theorem judgeTimerSet_of_good_arguments (h : HostId) {a : TimerArgs} (s : State) {t : Fin 4} {k : TimerCommand}
    (ht : a.timer.toNat = t.val) (hk : timerCommand a.command = some k) (hp : a.period ≠ some 0) :
    judgeTimerSet h a s =
      asHolder s h (accept (s.setTimer t ((s.timer t).set (a.period.map BitVec.toNat) k))
        (.timer t ((s.timer t).set (a.period.map BitVec.toNat) k).running
          ((s.timer t).set (a.period.map BitVec.toNat) k).period)) := by
  simp only [judgeTimerSet, small_eq_some ht, hk, if_neg hp]

/-! ### The request -/

theorem exec_timerSet_of_refusal {s : State} {h : HostId} {a : TimerArgs} {st : Status} (tag : Byte)
    (ha : s.accepts h = true) (hv : judgeTimerSet h a s = refuse st) :
    exec (.timerSet h tag (.fits a)) s = .next (s.respond h tag st .nothing) :=
  congrArg Host.Outcome.next (State.request_of_refusal tag ha hv)

/-- The lease holder's TIMER_SET leaves the timer as the table has it, and answers its run state and period. -/
theorem exec_timerSet_of_holder {s : State} {h : HostId} {a : TimerArgs} {t : Fin 4} {k : TimerCommand}
    {y : IntervalTimer} (tag : Byte) (ha : s.accepts h = true) (ht : a.timer.toNat = t.val)
    (hk : timerCommand a.command = some k) (hp : a.period ≠ some 0) (hl : s.lease = some h)
    (hy : (s.timer t).set (a.period.map BitVec.toNat) k = y) :
    exec (.timerSet h tag (.fits a)) s
      = .next ((s.setTimer t y).respond h tag .ok (.timer t y.running y.period)) := by
  have hv : judgeTimerSet h a s = accept (s.setTimer t y) (.timer t y.running y.period) := by
    rw [judgeTimerSet_of_good_arguments h s ht hk hp, asHolder_of_holder _ hl, hy]
  exact congrArg Host.Outcome.next (State.request_of_accept tag ha hv)

/-- Settles O45: the checks in their order, then the table's rows by run state, command and period. -/
theorem timerSetByTheTable : Obligations.TimerSetByTheTable := by
  intro s h tag n c t period ha
  refine ⟨fun hbad => ?badArgument, fun ht hc hp hl => ?noLease, fun ht hp hl => ⟨fun hx hc => ?none,
    fun hx hc => ?start, fun hc => ?stop, fun hx hc hnone => ?runningKept, fun hx hc hsome => ?runningRestarted⟩⟩
  case badArgument => exact exec_timerSet_of_refusal tag ha (judgeTimerSet_of_bad_argument h s hbad)
  case noLease =>
    obtain ⟨k, hk⟩ := timerCommand_of_le_two hc
    refine exec_timerSet_of_refusal tag ha ?_
    rw [judgeTimerSet_of_good_arguments h s ht hk hp, asHolder_of_stranger _ hl]
  case none =>
    subst hc
    exact exec_timerSet_of_holder tag ha ht rfl hp hl (IntervalTimer.set_none_of_stopped _ hx)
  case start =>
    subst hc
    exact exec_timerSet_of_holder tag ha ht rfl hp hl (IntervalTimer.set_start_of_stopped _ hx)
  case stop =>
    subst hc
    exact exec_timerSet_of_holder tag ha ht rfl hp hl (IntervalTimer.set_stop _ _)
  case runningKept =>
    subst hnone
    obtain ⟨k, hk, hstop⟩ := timerCommand_of_le_one hc
    exact exec_timerSet_of_holder tag ha ht hk hp hl (IntervalTimer.set_of_running_keeps hx hstop)
  case runningRestarted =>
    obtain ⟨p, rfl⟩ := Option.ne_none_iff_exists'.mp hsome
    obtain ⟨k, hk, hstop⟩ := timerCommand_of_le_one hc
    exact exec_timerSet_of_holder tag ha ht hk hp hl (IntervalTimer.set_of_running_restarts _ hx hstop)

end Sys2Proof.Machine
end

section
/-! SUPPORT. The settings lease (R151, R152): what a verdict with values answers at a port that takes it, the verdict on a
lease request by the state of the lease, and the statement about them. -/

namespace Sys2Proof.Machine

/-! ### Answers at a port that takes a request -/

/-- A refusal may carry values, as LEASE_HELD carries the holder; it too changes nothing but the port (R24). -/
theorem State.request_of_error {s : State} {h : HostId} {act : State → Verdict} {st : Status} {r : Reply} (tag : Byte)
    (ha : s.accepts h = true) (hv : act s = .error (st, r)) : s.request h tag act = s.respond h tag st r := by
  obtain ⟨hReset, hBusy⟩ := State.state_of_accepts ha
  rcases s.request_cases h tag act with ⟨e, -⟩ | ⟨⟨q, e⟩, -⟩ | ⟨st', r', e, hreq⟩ | ⟨t, r', e, -⟩ | ⟨t, k, e, -⟩
  · exact absurd e hReset
  · exact absurd e (hBusy q)
  · obtain ⟨rfl, rfl⟩ : st' = st ∧ r' = r := by simpa [hv, eq_comm] using e
    exact hreq
  · simp [hv] at e
  · simp [hv] at e

theorem State.request_of_misfit {α : Type} {s : State} {h : HostId} (act : α → State → Verdict) (tag : Byte)
    (ha : s.accepts h = true) :
    s.request h tag (withArgs .misfit act) = s.respond h tag .badArgument .nothing :=
  State.request_of_refusal tag ha rfl

/-! ### The verdict by the state of the lease -/

section
variable {s : State} {h : HostId}

theorem judgeLeaseTake_of_free (hl : s.lease = none) :
    judgeLeaseTake h () s = accept { s with lease := some h, leaseLeft := Config.leaseTime } .leaseTaken := by
  simp only [judgeLeaseTake, hl]

theorem judgeLeaseTake_of_holder (hl : s.lease = some h) :
    judgeLeaseTake h () s = accept { s with leaseLeft := Config.leaseTime } .leaseRenewed := by
  simp only [judgeLeaseTake, hl, if_true]

theorem judgeLeaseTake_of_stranger {k : HostId} (hl : s.lease = some k) (hk : k ≠ h) :
    judgeLeaseTake h () s = .error (.leaseHeld, .leaseHolder k) := by
  simp only [judgeLeaseTake, hl, if_neg hk]

end

/-- Settles O42: LEASE_TAKE by its three lease states, LEASE_RENEW and LEASE_DROP by the holder check. -/
theorem leaseChangesHands : Obligations.LeaseChangesHands := by
  intro s h k tag
  refine ⟨fun ha hl => ?free, fun ha hl => ⟨?takeOwn, ?renewOwn, ?dropOwn⟩, fun ha hl hk => ?foreign,
    fun ha hl => ⟨?renewForeign, ?dropForeign⟩, fun ha => ⟨?takeMisfit, ?renewMisfit, ?dropMisfit⟩⟩
  case free => exact congrArg Host.Outcome.next (State.request_of_accept tag ha (judgeLeaseTake_of_free hl))
  case takeOwn => exact congrArg Host.Outcome.next (State.request_of_accept tag ha (judgeLeaseTake_of_holder hl))
  case renewOwn => exact congrArg Host.Outcome.next (State.request_of_accept tag ha (asHolder_of_holder _ hl))
  case dropOwn => exact congrArg Host.Outcome.next (State.request_of_accept tag ha (asHolder_of_holder _ hl))
  case foreign => exact congrArg Host.Outcome.next (State.request_of_error tag ha (judgeLeaseTake_of_stranger hl hk))
  case renewForeign => exact congrArg Host.Outcome.next (State.request_of_refusal tag ha (asHolder_of_stranger _ hl))
  case dropForeign => exact congrArg Host.Outcome.next (State.request_of_refusal tag ha (asHolder_of_stranger _ hl))
  case takeMisfit => exact congrArg Host.Outcome.next (State.request_of_misfit _ tag ha)
  case renewMisfit => exact congrArg Host.Outcome.next (State.request_of_misfit _ tag ha)
  case dropMisfit => exact congrArg Host.Outcome.next (State.request_of_misfit _ tag ha)

end Sys2Proof.Machine
end

section
/-! SUPPORT. SETTINGS_READ and DEVICE_QUERY (R157, R159): the bytes of their reports (R173), and the statement about them. -/

namespace Sys2Proof.Machine

/-- A count goes out high byte first (R173). -/
theorem twoBytes_eq (n : Nat) : twoBytes n = [BitVec.ofNat 8 (n / 256), BitVec.ofNat 8 n] := by
  have high : (BitVec.ofNat 16 n).extractLsb' 8 8 = BitVec.ofNat 8 (n / 256) := by
    apply BitVec.eq_of_toNat_eq
    simp only [BitVec.extractLsb'_toNat, BitVec.toNat_ofNat, Nat.shiftRight_eq_div_pow]
    omega
  have low : (BitVec.ofNat 16 n).extractLsb' 0 8 = BitVec.ofNat 8 n := by
    apply BitVec.eq_of_toNat_eq
    simp only [BitVec.extractLsb'_toNat, BitVec.toNat_ofNat, Nat.shiftRight_zero]
    omega
  rw [twoBytes, bytes16, high, low]

/-- The usage report is the settings record's bytes and then the usages of H0 to H3 (R157). -/
theorem Reply.bytes_settingsUsage (s : State) (h : HostId) (r : Settings) (used : Table 4 Nat) :
    Reply.bytes s h (.settingsUsage r used)
      = Reply.bytes s h (.settings r)
        ++ allHosts.flatMap fun k => [BitVec.ofNat 8 (look used k / 256), BitVec.ofNat 8 (look used k)] := by
  simp only [Reply.bytes, twoBytes_eq]

/-- The device report opens with the part code and the revision as bytes (R159). -/
theorem Reply.bytes_device (s : State) (h : HostId) (i : DeviceInfo) :
    Reply.bytes s h (.device i)
      = [0x0A#8, 0x48#8, 0x01#8] ++ bytes16 (BitVec.ofNat 16 i.freeCount) ++ bytes32 i.timestamp ++ [i.link.code]
        ++ leaseBytes i.lease := by
  have opening : bytes16 Config.partCode ++ [Config.revision] = [0x0A#8, 0x48#8, 0x01#8] := by decide
  rw [Reply.bytes, opening, twoBytes]

/-- Settles O44: both requests are accepted in the state as it stands, and their reports are spelled byte by byte. -/
theorem settingsReadAndDeviceQuery : Obligations.SettingsReadAndDeviceQuery := by
  intro s h tag ha
  refine ⟨?settings, ?device, ?settingsMisfit, ?deviceMisfit, ?settingsBytes, ?deviceBytes⟩
  case settings => exact congrArg Host.Outcome.next (State.request_of_accept tag ha rfl)
  case device => exact congrArg Host.Outcome.next (State.request_of_accept tag ha rfl)
  case settingsMisfit => exact congrArg Host.Outcome.next (State.request_of_misfit _ tag ha)
  case deviceMisfit => exact congrArg Host.Outcome.next (State.request_of_misfit _ tag ha)
  case settingsBytes => exact Reply.bytes_settingsUsage s h s.settings s.usage
  case deviceBytes =>
    rw [Reply.bytes_device]
    cases s.lease with
    | none => rfl
    | some k => rfl

end Sys2Proof.Machine
end


section
/-! SUPPORT. The acts that the part's blocks are made of, as a relation between states, and for each shared operation that
it is a run of such acts. What holds of every single act then holds of every operation: the step pool, the banks, the
ports in reset, the counts and the queue of commands are settled act by act. -/

set_option Elab.async false

namespace Sys2Proof.Machine

/-! ### The acts -/

/-- What an act leaves of a lane record: who has it, its program, its configuration and its subscribers. Its write bank stays,
or is given up, and then may become the front bank (R124). -/
structure LaneAct (x y : Lane) : Prop where
  condition : y.condition = x.condition
  program : y.program = x.program
  config : y.config = x.config
  subscribers : y.subscribers = x.subscribers
  overrun : y.overrun ≤ x.overrun ∨ y.overrun = satSucc x.overrun
  banks : (y.front = x.front ∧ y.write = x.write) ∨ (y.write = none ∧ (y.front = x.front ∨ y.front = x.write))

/-- One act of the part, by how far it reaches: with 0 to the lanes, the ports and the tables, with 1 to the executor too,
which drops its step or takes one that no attempt has begun of, with 2 to the link too. -/
inductive Act (reach : Nat) (s : State) : State → Prop where
  | lane (l : LaneId) (x : Lane) (hx : LaneAct (s.lane l) x) : Act reach s (s.setLane l x)
  | takeBank (l : LaneId) : Act reach s (s.takeBank l)
  | bank (l : LaneId) (b : BankId) (x : Bank) : Act reach s (s.setBank l b x)
  | event (h : HostId) (b : EventBody) : Act reach s (s.queueEvent h b)
  | station (g : SegmentId) (n : StationId) (x : Station)
      (hx : x.failures ≤ (s.station g n).failures ∨ x.failures ≤ Config.failureMax) : Act reach s (s.setStation g n x)
  | stations : Act reach s { s with stations := freshStations }
  | queue (h : HostId) (q : List DirectRequest) (hq : q.length ≤ (s.directQueue h).length)
      (hst : ∀ r ∈ q, ∃ r' ∈ s.directQueue h, r.step = r'.step) : Act reach s (s.setDirectQueue h q)
  | released (h : HostId) (k : HeldKind) (r : Reply) (hr : r.pins = none) :
      Act reach s (s.setPort h ((s.port h).released k r))
  | unlease : Act reach s { s with lease := none }
  | control (t : State)
      (ht : t = { s with
        samplers := t.samplers, timers := t.timers, chainDue := t.chainDue, directPtr := t.directPtr
        lanePtr := t.lanePtr, probe := t.probe, fda := t.fda, leaseLeft := t.leaseLeft }) : Act reach s t
  | drop (hn : 1 ≤ reach) : Act reach s { s with exec := none }
  | take (hn : 1 ≤ reach) (e : Execution) (hf : e.inFlight = false)
      (he : e.step.segment.isSome = true ∨ ∃ h, ∃ r ∈ s.directQueue h, e.step = r.step) : Act reach s { s with exec := some e }
  | line (hn : 2 ≤ reach) (t : State)
      (ht : t = { s with
        exec := t.exec, link := t.link, phaseLeft := t.phaseLeft, segment := t.segment
        faultAnnounced := t.faultAnnounced, disableWaiting := t.disableWaiting, watchLeft := t.watchLeft
        fda := t.fda }) : Act reach s t

/-- A run of acts. -/
abbrev Acts (reach : Nat) : State → State → Prop := Relation.ReflTransGen (Act reach)

/-- One act of the port unit on a port that is given or clocks out a response, or whose frame or flags change. A response
leaves with its pin; one that becomes ready pins a front bank or none (R129); records fetched leave their queue (R143). -/
inductive PortAct (s : State) : State → Prop where
  | leave (h : HostId) (r : Response) (frame : FrameState) (sticky : Sticky) (hr : (s.port h).state = .ready r) :
      PortAct s ((s.setPort h { s.port h with state := .idle, frame := frame, sticky := sticky }).releasePin h)
  | answer (h : HostId) (st : Status) (tag : Byte) (r : Reply) (hr : (s.port h).isReady = false)
      (hi : (s.port h).state ≠ .inReset) (hp : ∀ l b, r.pins = some (l, b) → (s.lane l).front = some b) :
      PortAct s (s.setPort h ((s.port h).answered st tag r))
  | port (h : HostId) (p : Port) (hs : p.state = (s.port h).state) (hp : p.pin = (s.port h).pin)
      (hc : (s.port h).state = .inReset → (s.port h).sticky = .clear → p.sticky = .clear) : PortAct s (s.setPort h p)
  | fetched (h : HostId) (count lost : Nat) (hi : (s.port h).state ≠ .inReset) :
      PortAct s (s.setMailbox h { s.mailbox h with
        queue := (s.mailbox h).queue.drop count
        lost := (s.mailbox h).lost - lost })

section
variable {reach : Nat}

/-- A run of acts of the port unit. -/
abbrev PortActs : State → State → Prop := Relation.ReflTransGen PortAct

theorem Acts.refl (s : State) : Acts reach s s := Relation.ReflTransGen.refl

theorem Act.acts {s t : State} (h : Act reach s t) : Acts reach s t := Relation.ReflTransGen.single h

/-- A run of acts after another, the last one first: the goal then names the states between. -/
theorem Acts.after {s t u : State} (h : Acts reach t u) (g : Acts reach s t) : Acts reach s u := g.trans h

/-- What every act keeps, every run of acts keeps. -/
theorem Acts.keeps {P : State → Prop} (hP : ∀ s t, Act reach s t → P s → P t) {s t : State} (h : Acts reach s t) (hs : P s) : P t := by
  induction h with
  | refl => exact hs
  | tail _ hlast ih => exact hP _ _ hlast ih

/-- What every act of the port unit keeps, every run of them keeps. -/
theorem PortActs.keeps {P : State → Prop} (hP : ∀ s t, PortAct s t → P s → P t) {s t : State} (h : PortActs s t)
    (hs : P s) : P t := by
  induction h with
  | refl => exact hs
  | tail _ hlast ih => exact hP _ _ hlast ih

theorem eachHost_acts {f : HostId → State → State} (hf : ∀ h s, Acts reach s (f h s)) (s : State) : Acts reach s (eachHost f s) :=
  (hf 0 s).trans ((hf 1 _).trans ((hf 2 _).trans (hf 3 _)))

theorem eachLane_acts {f : LaneId → State → State} (hf : ∀ l s, Acts reach s (f l s)) (s : State) : Acts reach s (eachLane f s) :=
  (hf 0 s).trans <| (hf 1 _).trans <| (hf 2 _).trans <| (hf 3 _).trans <| (hf 4 _).trans <| (hf 5 _).trans <|
    (hf 6 _).trans (hf 7 _)

/-- A lane record that differs in its pass, its position and its waits alone. -/
theorem LaneAct.pass {x y : Lane} (hc : y.condition = x.condition) (hp : y.program = x.program)
    (hg : y.config = x.config) (hs : y.subscribers = x.subscribers) (ho : y.overrun = x.overrun)
    (hf : y.front = x.front) (hw : y.write = x.write ∨ y.write = none) : LaneAct x y where
  condition := hc
  program := hp
  config := hg
  subscribers := hs
  overrun := .inl ho.le
  banks := hw.imp (fun hw => ⟨hf, hw⟩) fun hw => ⟨hw, .inl hf⟩

/-- The change of a lane record in its pass, its position and its waits. -/
theorem Acts.setLane (s : State) (l : LaneId) {x : Lane} (hx : LaneAct (s.lane l) x) : Acts reach s (s.setLane l x) :=
  (Act.lane l x hx).acts

/-! ### Events, banks and toggles -/

theorem State.queueEvent_acts (s : State) (h : HostId) (b : EventBody) : Acts reach s (s.queueEvent h b) := (Act.event h b).acts

theorem State.queueAll_acts (s : State) (b : EventBody) : Acts reach s (s.queueAll b) :=
  eachHost_acts (fun h u => u.queueEvent_acts h b) s

theorem State.queueOwner_acts (s : State) (l : LaneId) (b : EventBody) : Acts reach s (s.queueOwner l b) := by
  unfold State.queueOwner
  split
  · exact s.queueEvent_acts _ b
  · exact Acts.refl s

theorem State.queueSubscribers_acts (s : State) (l : LaneId) (b : EventBody) : Acts reach s (s.queueSubscribers l b) := by
  refine eachHost_acts (fun h u => ?_) s
  split
  · exact u.queueEvent_acts h b
  · exact Acts.refl u

theorem State.clearBank_acts (s : State) (l : LaneId) (b : BankId) : Acts reach s (s.clearBank l b) := (Act.bank l b _).acts

theorem State.settleToggle_acts (s : State) (st : Step) (sent : Bool) : Acts reach s (s.settleToggle st sent) := by
  obtain ⟨g, n, -, -, h⟩ | h := s.settleToggle_cases st sent
  · rw [h]
    exact (Act.station (s := s) g n { s.station g n with toggle := !(s.station g n).toggle } (.inl le_rfl)).acts
  · rw [h]

/-! ### Lanes -/

theorem State.countOverrun_acts (s : State) (l : LaneId) : Acts reach s (s.countOverrun l) := by
  unfold State.countOverrun
  have count : Acts reach s (s.setLane l { s.lane l with overrun := satSucc (s.lane l).overrun }) :=
    Acts.setLane s l ⟨rfl, rfl, rfl, rfl, .inr rfl, .inl ⟨rfl, rfl⟩⟩
  dsimp only
  split
  · exact count.trans (State.queueOwner_acts _ l _)
  · exact count

theorem State.passStart_acts (s : State) (l : LaneId) : Acts reach s (s.passStart l) :=
  (Act.takeBank l).acts.after (Acts.setLane s l (.pass rfl rfl rfl rfl rfl rfl (.inl rfl)))

theorem State.arrive_acts (s : State) (l : LaneId) : Acts reach s (s.arrive l).1 := by
  obtain h | ⟨-, h⟩ | ⟨-, h⟩ | ⟨-, h⟩ | ⟨-, h⟩ := s.arrive_cases l <;> rw [h]
  · exact s.passStart_acts l
  · exact Acts.setLane s l (.pass rfl rfl rfl rfl rfl rfl (.inl rfl))
  · exact Acts.setLane s l (.pass rfl rfl rfl rfl rfl rfl (.inl rfl))
  · exact s.countOverrun_acts l

theorem State.deliver_acts (s : State) (listens : TriggerSource → Bool) : Acts reach s (s.deliver listens) := by
  refine eachLane_acts (fun l u => ?_) s
  split
  · exact u.arrive_acts l
  · exact Acts.refl u

theorem State.settleHeld_acts (s : State) (l : LaneId) : Acts reach s (s.settleHeld l) := by
  obtain ⟨k, st, -, -, h⟩ | h := s.settleHeld_cases l
  · rw [h]
    exact s.settleToggle_acts st _
  · rw [h]

theorem State.abandonPass_acts (s : State) (l : LaneId) : Acts reach s (s.abandonPass l) :=
  (s.settleHeld_acts l).trans (Acts.setLane _ l (.pass rfl rfl rfl rfl rfl rfl (.inr rfl)))

theorem State.stopAtOnce_acts (s : State) (l : LaneId) : Acts reach s (s.stopAtOnce l) :=
  ((s.abandonPass_acts l).trans (State.queueOwner_acts _ l _)).trans
    (Acts.setLane _ l (.pass rfl rfl rfl rfl rfl rfl (.inl rfl)))

theorem State.releaseLane_acts (s : State) (l : LaneId) : Acts (reach + 1) s (s.releaseLane l) := by
  obtain ⟨e, -, -, h⟩ | ⟨-, h⟩ := s.releaseLane_cases l
  · rw [h]
    exact (Act.drop (by omega)).acts
  · rw [h]

theorem State.readyHeld_acts (s : State) (k : HeldKind) {r : Reply} (hr : r.pins = none) : Acts reach s (s.readyHeld k r) :=
  eachHost_acts (fun h _ => (Act.released h k r hr).acts) s

theorem State.leaveStopping_acts (s : State) (l : LaneId) : Acts (reach + 1) s (s.leaveStopping l) :=
  ((s.stopAtOnce_acts l).trans (State.releaseLane_acts _ l)).trans (State.readyHeld_acts _ _ rfl)

theorem State.settleStopped_acts (s : State) (l : LaneId) : Acts reach s (s.settleStopped l) := by
  unfold State.settleStopped
  split
  · split
    · exact s.settleToggle_acts _ _
    · exact Acts.refl s
  · exact Acts.refl s

theorem State.stopLane_acts (s : State) (l : LaneId) : Acts (reach + 1) s (s.stopLane l) := by
  obtain ⟨-, h⟩ | ⟨-, h⟩ | ⟨-, h⟩ | ⟨-, -, h⟩ | ⟨-, -, h⟩ | ⟨-, h⟩ := s.stopLane_cases l <;> rw [h]
  · exact Acts.setLane s l (.pass rfl rfl rfl rfl rfl rfl (.inl rfl))
  · exact Acts.setLane s l (.pass rfl rfl rfl rfl rfl rfl (.inl rfl))
  · exact Acts.setLane s l (.pass rfl rfl rfl rfl rfl rfl (.inl rfl))
  · exact (s.settleStopped_acts l).trans (State.leaveStopping_acts _ l)
  · exact s.stopAtOnce_acts l

/-! ### The line -/

theorem Station.after_failures (x : Station) (threshold : Nat) (valid : Bool) :
    (x.after threshold valid).failures ≤ Config.failureMax := by
  unfold Station.after
  split
  · exact Nat.zero_le _
  · exact Nat.min_le_right _ _

theorem State.updateStation_acts (s : State) (g : SegmentId) (n : StationId) (valid : Bool) :
    Acts reach s (s.updateStation g n valid) := by
  have entry := (Act.station (reach := reach) (s := s) g n _ (.inr (Station.after_failures (s.station g n) s.settings.silentThreshold valid))).acts
  obtain ⟨-, -, h⟩ | ⟨-, -, h⟩ | ⟨-, h⟩ := s.updateStation_cases g n valid <;> rw [h]
  · exact entry.trans (State.queueAll_acts _ _)
  · exact entry.trans (State.queueAll_acts _ _)
  · exact entry

theorem State.keepAtHead_acts (s : State) (h : HostId) (e : Execution) (left : Option Nat) :
    Acts reach s (s.keepAtHead h e left) := by
  obtain ⟨-, hk⟩ | ⟨r, rest, hq, hk⟩ := s.keepAtHead_cases h e left <;> rw [hk]
  refine (Act.queue h _ (by simp [hq]) fun x hx => ?_).acts
  rw [hq]
  obtain rfl | hx := List.mem_cons.mp hx
  · exact ⟨r, by simp, rfl⟩
  · exact ⟨x, by simp [hx], rfl⟩

theorem State.withdraw_acts (s : State) : Acts (reach + 1) s s.withdraw := by
  have release : Acts (reach + 1) s { s with exec := none } := (Act.drop (by omega)).acts
  obtain ⟨-, h⟩ | ⟨e, -, ⟨l, -, -, h⟩ | ⟨l, -, -, h⟩ | ⟨k, -, h⟩ | ⟨-, h⟩ | ⟨-, h⟩⟩ := s.withdraw_cases <;> rw [h]
  · exact (release.trans (State.settleToggle_acts _ _ _)).trans (State.leaveStopping_acts _ l)
  · exact release.trans (Acts.setLane _ l (.pass rfl rfl rfl rfl rfl rfl (.inl rfl)))
  · exact release.trans (State.keepAtHead_acts _ k e none)
  · exact release.trans (State.settleToggle_acts _ _ _)
  · exact release

theorem State.goOff_acts (s : State) : Acts (reach + 2) s s.goOff :=
  (s.withdraw_acts.trans (Act.line (by omega) _ rfl).acts).trans (State.readyHeld_acts _ _ rfl)

/-- LINK_FAULT goes out unless a fault is announced already (R94). -/
def State.announceFault (s : State) : State :=
  if s.faultAnnounced then s else { s.queueAll .linkFault with faultAnnounced := true }

/-- The link FAULTED, its fault announced and its watch started, before a waiting disable acts (R94). -/
def State.faulted (s : State) : State :=
  { s.withdraw.announceFault with link := .faulted, phaseLeft := 0, watchLeft := Config.watchTime }

/-- A fault withdraws the grant and leaves the link FAULTED, or OFF where a disable waits (R94, R91). -/
theorem State.enterFaulted_eq (s : State) :
    s.enterFaulted = if s.faulted.disableWaiting then s.faulted.goOff else s.faulted := rfl

theorem State.announceFault_acts (s : State) : Acts (reach + 2) s s.announceFault := by
  unfold State.announceFault
  split
  · exact Acts.refl s
  · exact (Act.line (s := s.queueAll .linkFault) (by omega) _ rfl).acts.after (s.queueAll_acts _)

theorem State.faulted_acts (s : State) : Acts (reach + 2) s s.faulted :=
  (Act.line (s := s.withdraw.announceFault) (by omega) _ rfl).acts.after <| (State.announceFault_acts _).after s.withdraw_acts

theorem State.enterFaulted_acts (s : State) : Acts (reach + 2) s s.enterFaulted := by
  rw [State.enterFaulted_eq]
  split
  · exact s.faulted_acts.trans (State.goOff_acts _)
  · exact s.faulted_acts

theorem State.resetSegment_acts (s : State) (g : SegmentId) : Acts (reach + 2) s (s.resetSegment g) := (Act.line (by omega) _ rfl).acts

theorem State.beginLineReset_acts (s : State) : Acts (reach + 2) s s.beginLineReset := by
  obtain ⟨-, h⟩ | ⟨-, h⟩ := s.beginLineReset_cases <;> rw [h]
  · exact s.enterFaulted_acts
  · exact s.withdraw_acts.trans (State.resetSegment_acts _ _)

/-- LINK_RECOVERED goes out where a fault is announced (R94). -/
def State.announceRecovery (s : State) : State :=
  if s.faultAnnounced then { s.queueAll .linkRecovered with faultAnnounced := false } else s

/-- The line reset completed, before a waiting disable acts (R92). -/
def State.recovered (s : State) : State :=
  { s with stations := freshStations, link := .idle, phaseLeft := 0 }.announceRecovery

theorem State.completeLineReset_eq (s : State) :
    s.completeLineReset = if s.recovered.disableWaiting then s.recovered.goOff else s.recovered := rfl

theorem State.announceRecovery_acts (s : State) : Acts (reach + 2) s s.announceRecovery := by
  unfold State.announceRecovery
  split
  · exact (Act.line (s := s.queueAll .linkRecovered) (by omega) _ rfl).acts.after (s.queueAll_acts _)
  · exact Acts.refl s

theorem State.recovered_acts (s : State) : Acts (reach + 2) s s.recovered :=
  (State.announceRecovery_acts _).after <|
    (Act.line (s := { s with stations := freshStations }) (by omega) _ rfl).acts.after Act.stations.acts

theorem State.completeLineReset_acts (s : State) : Acts (reach + 2) s s.completeLineReset := by
  rw [State.completeLineReset_eq]
  split
  · exact s.recovered_acts.trans (State.goOff_acts _)
  · exact s.recovered_acts

theorem State.enterGap_acts (s : State) : Acts (reach + 2) s s.enterGap := (Act.line (by omega) _ rfl).acts

/-! ### Passes and grants -/

theorem State.swapBanks_acts (s : State) (l : LaneId) : Acts reach s (s.swapBanks l) := by
  obtain ⟨-, h⟩ | ⟨b, hw, h⟩ := s.swapBanks_cases l <;> rw [h]
  exact (Act.bank l b _).acts.trans
    (Acts.setLane _ l ⟨rfl, rfl, rfl, rfl, .inl le_rfl, .inr ⟨rfl, .inr hw.symm⟩⟩)

theorem State.afterPass_acts (s : State) (l : LaneId) : Acts reach s (s.afterPass l) := by
  have keep {x : Lane} (hx : LaneAct (s.lane l) x) := Acts.setLane (reach := reach) s l hx
  obtain ⟨-, -, h⟩ | ⟨-, -, h⟩ | ⟨-, -, h⟩ | ⟨-, -, h⟩ := s.afterPass_cases l <;> rw [h]
  · exact (State.passStart_acts _ l).after (keep (.pass rfl rfl rfl rfl rfl rfl (.inl rfl)))
  · exact keep (.pass rfl rfl rfl rfl rfl rfl (.inl rfl))
  · exact (State.countOverrun_acts _ l).after (keep (.pass rfl rfl rfl rfl rfl rfl (.inl rfl)))
  · exact keep (.pass rfl rfl rfl rfl rfl rfl (.inl rfl))

/-- A pass completion is a swap, PASS_DONE, the lane's next state and a chain trigger due (R72). -/
theorem State.completePass_eq (s : State) (l : LaneId) :
    s.completePass l
      = (let x := (s.swapBanks l).lane l
        let u := ((s.swapBanks l).queueSubscribers l (.passDone l x.generation x.errorCount)).afterPass l
        { u with chainDue := u.chainDue ++ [l] }) := rfl

theorem State.completePass_acts (s : State) (l : LaneId) : Acts reach s (s.completePass l) := by
  have next := fun b =>
    ((s.swapBanks_acts (reach := reach) l).trans (State.queueSubscribers_acts _ l b)).trans (State.afterPass_acts _ l)
  rw [State.completePass_eq]
  dsimp only
  specialize next (.passDone l ((s.swapBanks l).lane l).generation ((s.swapBanks l).lane l).errorCount)
  generalize State.afterPass _ l = u at next ⊢
  exact next.trans (Act.control _ rfl).acts

/-- The state a course leaves. -/
def Course.state : Course → State
  | .ended s => s
  | .goesOn _ s => s

theorem State.passChecks_acts (steps : List Step) : ∀ (s : State) (l : LaneId), Acts reach s (s.passChecks l steps).state := by
  induction steps with
  | nil => exact fun s l => s.completePass_acts l
  | cons st rest ih =>
    intro s l
    obtain ⟨h, -⟩ | ⟨tag, rest', h, -, e⟩ | ⟨tag, rest', h, -, e⟩ | ⟨st', rest', h, -, e⟩ := s.passChecks_cases l (st :: rest)
    · exact absurd h (by simp)
    · obtain ⟨rfl, rfl⟩ : st = .brk tag ∧ rest = rest' := by simpa using h
      rw [e]
      exact (ih _ l).after (Acts.setLane s l (.pass rfl rfl rfl rfl rfl rfl (.inl rfl)))
    · rw [e]
      exact (State.queueOwner_acts _ l _).after (Acts.setLane s l (.pass rfl rfl rfl rfl rfl rfl (.inl rfl)))
    · rw [e]
      exact Acts.refl s

/-- The step that a pass goes on with is no BREAK (R67). -/
theorem State.passChecks_segment (steps : List Step) : ∀ (s : State) (l : LaneId) {st : Step} {t : State},
    s.passChecks l steps = .goesOn st t → st.segment.isSome = true := by
  induction steps with
  | nil => exact fun s l st t h => by simp [State.passChecks] at h
  | cons x rest ih =>
    intro s l st t h
    obtain ⟨e, -⟩ | ⟨tag, rest', hx, -, e⟩ | ⟨tag, rest', -, -, e⟩ | ⟨x', rest', -, hseg, e⟩ := s.passChecks_cases l (x :: rest)
    · exact absurd e (by simp)
    · obtain ⟨rfl, rfl⟩ : x = .brk tag ∧ rest = rest' := by simpa using hx
      exact ih _ l (e.symm.trans h)
    · simp [e] at h
    · obtain ⟨rfl, rfl⟩ : x' = st ∧ s = t := by simpa [e] using h
      exact Option.isSome_iff_ne_none.mpr hseg

theorem State.execute_acts (s : State) (l : LaneId) {st : Step} (hst : st.segment.isSome = true) :
    Acts (reach + 1) s (s.execute l st) :=
  (Act.take (s := s.setLane l { s.lane l with held := none }) (by omega) _ rfl (.inl hst)).acts.after
    (Acts.setLane s l (.pass rfl rfl rfl rfl rfl rfl (.inl rfl)))

theorem State.grantLane_acts (s : State) (l : LaneId) : Acts (reach + 1) s (s.grantLane l) := by
  obtain ⟨u, hu, h⟩ := s.grantLane_cases l
  have start : Acts (reach + 1) s u := by
    rw [hu]
    exact (Act.control (s := s.setLane l { s.lane l with run := .running }) _ rfl).acts.after
      (Acts.setLane s l (.pass rfl rfl rfl rfl rfl rfl (.inl rfl)))
  have checks := start.trans (State.passChecks_acts (u.stepsLeft l) u l)
  obtain ⟨t, hc, ht⟩ | ⟨st, t, hc, ht⟩ := h <;> rw [ht]
  · rw [hc] at checks
    exact checks
  · have hst := State.passChecks_segment _ u l hc
    rw [hc] at checks
    exact checks.trans (State.execute_acts t l hst)

theorem State.giveGrant_acts (s : State) (c : Candidate) : Acts (reach + 1) s (s.giveGrant c) := by
  cases c with
  | direct h =>
    simp only [State.giveGrant, State.grantDirect]
    split
    next r rest hq =>
      exact (Act.control (s := s) { s with directPtr := some h } rfl).acts.trans
        (Act.take (by omega) _ rfl (.inr ⟨h, r, by simp [State.directQueue] at hq ⊢; simp [hq], rfl⟩)).acts
    · exact Acts.refl s
  | lane l => exact s.grantLane_acts l
  | probe g m =>
    exact (Act.control (s := s) { s with probe := ⟨false, some s.probeTime, some (g, m)⟩ } rfl).acts.trans
      (Act.take (by omega) _ rfl (.inl rfl)).acts

theorem State.suspendPass_acts (s : State) (l : LaneId) : Acts reach s (s.suspendPass l) := by
  obtain ⟨-, h⟩ | ⟨-, ⟨b, -, h⟩ | ⟨-, h⟩⟩ := s.suspendPass_cases l <;> rw [h]
  · exact Acts.setLane s l (.pass rfl rfl rfl rfl rfl rfl (.inl rfl))
  · exact (State.clearBank_acts _ l b).after (Acts.setLane s l (.pass rfl rfl rfl rfl rfl rfl (.inl rfl)))
  · exact Acts.setLane s l (.pass rfl rfl rfl rfl rfl rfl (.inl rfl))

theorem State.passGrant_acts (s : State) : Acts (reach + 1) s s.passGrant := by
  unfold State.passGrant
  split
  · exact s.giveGrant_acts _
  · exact Acts.refl s

theorem State.boundary_acts (s : State) (l : LaneId) : Acts (reach + 1) s (s.boundary l) := by
  have checks := State.passChecks_acts (reach := reach + 1) (s.stepsLeft l) s l
  obtain ⟨t, hc, h⟩ | ⟨st, t, hc, ⟨-, h⟩ | ⟨-, h⟩⟩ := s.boundary_cases l <;> rw [h]
  · rw [hc] at checks
    exact checks
  · rw [hc] at checks
    exact (checks.trans (State.suspendPass_acts t l)).trans (State.passGrant_acts _)
  · have hst := State.passChecks_segment _ s l hc
    rw [hc] at checks
    exact checks.trans (State.execute_acts t l hst)

/-! ### Step ends and attempts -/

theorem State.writeRecord_acts (s : State) (l : LaneId) (e : Execution) (o : StepOutcome) (data : List Byte) :
    Acts reach s (s.writeRecord l e o data) := by
  obtain ⟨r, b, -, -, h⟩ | h := s.writeRecord_cases l e o data <;> rw [h]
  exact (Act.bank l b _).acts

theorem State.advance_acts (s : State) (l : LaneId) : Acts (reach + 1) s (s.advance l) :=
  (State.boundary_acts _ l).after (Acts.setLane s l (.pass rfl rfl rfl rfl rfl rfl (.inl rfl)))

theorem State.skipStep_acts (s : State) (l : LaneId) (e : Execution) (o : StepOutcome) : Acts (reach + 1) s (s.skipStep l e o) :=
  (State.advance_acts _ l).after <| (State.queueOwner_acts _ l _).after <|
    Acts.setLane s l (.pass rfl rfl rfl rfl rfl rfl (.inl rfl))

theorem State.haltPass_acts (s : State) (l : LaneId) (o : StepOutcome) : Acts (reach + 1) s (s.haltPass l o) := by
  refine (State.queueOwner_acts _ l _).after ((Acts.setLane _ l ?halted).after ((State.abandonPass_acts _ l).after
    (Acts.setLane s l ?counted)))
  case halted => exact .pass rfl rfl rfl rfl rfl rfl (.inl rfl)
  case counted => exact .pass rfl rfl rfl rfl rfl rfl (.inl rfl)

theorem State.laneStepEnd_acts (s : State) (l : LaneId) (e : Execution) (o : StepOutcome) (data : List Byte) :
    Acts (reach + 1) s (s.laneStepEnd l e o data) := by
  refine (s.writeRecord_acts l e o data).trans ?_
  obtain ⟨-, h⟩ | ⟨-, -, h⟩ | ⟨-, -, ⟨-, h⟩ | ⟨-, h⟩⟩ := s.laneStepEnd_cases l e o data <;> rw [h]
  · exact State.leaveStopping_acts _ l
  · exact State.advance_acts _ l
  · exact State.skipStep_acts _ l e o
  · exact State.haltPass_acts _ l o

theorem State.directDone_acts (s : State) (h : HostId) (e : Execution) (o : StepOutcome) (data : List Byte) :
    Acts reach s (s.directDone h e o data) := by
  obtain ⟨-, hd⟩ | ⟨r, rest, hq, hd⟩ := s.directDone_cases h e o data <;> rw [hd]
  exact (Act.queue h rest (by simp [hq]) (by simp [hq]; tauto)).acts.trans (State.queueEvent_acts _ h _)

theorem State.stepEnd_acts (s : State) (e : Execution) (o : StepOutcome) (data : List Byte) :
    Acts (reach + 1) s (s.stepEnd e o data) := by
  have settled : Acts (reach + 1) s ({ s with exec := none }.settleToggle e.step e.fullySent) :=
    (Act.drop (by omega)).acts.trans (State.settleToggle_acts _ _ _)
  obtain ⟨l, -, h⟩ | ⟨k, -, h⟩ | ⟨-, h⟩ := s.stepEnd_cases e o data <;> rw [h]
  · exact settled.trans (State.laneStepEnd_acts _ l e o data)
  · exact settled.trans (State.directDone_acts _ k e o data)
  · exact settled

theorem State.frameStart_acts {s t : State} {e : Execution} (h : s.frameStart e = some t) : Acts (reach + 2) s t := by
  obtain ⟨-, hn⟩ | ⟨data, -, ⟨-, hs⟩ | ⟨-, hs⟩⟩ := s.frameStart_cases e
  · simp [hn] at h
  · obtain rfl := Option.some.inj (hs.symm.trans h)
    exact (Act.line (by omega) _ rfl).acts.trans (State.enterFaulted_acts _)
  · obtain rfl := Option.some.inj (hs.symm.trans h)
    exact (Act.line (by omega) _ rfl).acts

/-- One round of the executor on the free line (R59, R87, R100): nothing to do, a step that ends without line time, an
attempt on another segment, or a frame that starts. -/
theorem State.drive_succ_cases (k : Nat) (s : State) :
    (State.drive (k + 1) s = s)
      ∨ (∃ e o, s.exec = some e ∧ s.link = .idle
          ∧ (s.failsCheck e = some o ∨ (s.failsCheck e = none ∧ o = .sourceEmpty ∧ s.frameStart e = none
            ∧ e.step.segment = some s.segment))
          ∧ State.drive (k + 1) s = State.drive k (s.stepEnd e o []))
      ∨ (∃ e g, s.exec = some e ∧ s.link = .idle ∧ s.failsCheck e = none ∧ e.step.segment = some g ∧ g ≠ s.segment
          ∧ State.drive (k + 1) s = s.switchSegment e g)
      ∨ ∃ e t, s.exec = some e ∧ s.link = .idle ∧ s.failsCheck e = none ∧ e.step.segment = some s.segment
          ∧ s.frameStart e = some t ∧ State.drive (k + 1) s = t := by
  rw [State.drive]
  cases he : s.exec with
  | none => exact .inl rfl
  | some e =>
    by_cases hl : s.link = .idle
    · simp only [ne_eq, hl, not_true_eq_false, if_false]
      cases hf : s.failsCheck e with
      | some o => exact .inr (.inl ⟨e, o, rfl, trivial, .inl hf, rfl⟩)
      | none =>
        cases hs : e.step.segment with
        | none => exact .inl rfl
        | some g =>
          by_cases hg : g = s.segment
          · subst hg
            cases ht : s.frameStart e with
            | none => exact .inr (.inl ⟨e, .sourceEmpty, rfl, trivial, .inr ⟨hf, rfl, ht, hs⟩, by simp⟩)
            | some t => exact .inr (.inr (.inr ⟨e, t, rfl, trivial, hf, hs, ht, by simp⟩))
          · exact .inr (.inr (.inl ⟨e, g, rfl, trivial, hf, hs, hg, by simp [hg]⟩))
    · exact .inl (by simp [hl])

theorem State.drive_acts (k : Nat) : ∀ s : State, Acts (reach + 2) s (State.drive k s) := by
  induction k with
  | zero => exact fun s => Acts.refl s
  | succ k ih =>
    intro s
    obtain h | ⟨e, o, -, -, -, h⟩ | ⟨e, g, -, -, -, -, -, h⟩ | ⟨e, t, -, -, -, -, ht, h⟩ := s.drive_succ_cases k <;> rw [h]
    · exact (s.stepEnd_acts e o []).trans (ih _)
    · exact (Act.line (by omega) _ rfl).acts
    · exact State.frameStart_acts ht

theorem State.lineFree_acts (s : State) : Acts (reach + 2) s s.lineFree := by
  unfold State.lineFree
  split
  · exact s.goOff_acts
  · exact (Act.line (by omega) _ rfl).acts.trans (State.drive_acts _ _)

theorem State.retryWait_acts (s : State) (e : Execution) : Acts (reach + 1) s (s.retryWait e) := by
  have release : Acts (reach + 1) s { s with exec := none } := (Act.drop (by omega)).acts
  unfold State.retryWait
  dsimp only
  split
  · exact release.trans (Acts.setLane _ _ (.pass rfl rfl rfl rfl rfl rfl (.inl rfl)))
  · exact release.trans (State.keepAtHead_acts _ _ _ _)
  · exact release

theorem State.countResult_acts (s : State) (e : Execution) (r : AttemptResult) (silenced : Bool) :
    Acts (reach + 1) s (s.countResult e r silenced) := by
  obtain ⟨-, h⟩ | ⟨-, -, h⟩ | ⟨-, -, -, h⟩ | ⟨-, -, -, -, h⟩ := s.countResult_cases e r silenced <;> rw [h]
  · exact s.stepEnd_acts _ _ _
  · exact s.stepEnd_acts _ _ _
  · exact s.stepEnd_acts _ _ _
  · exact s.retryWait_acts _

theorem State.attemptResult_acts (s : State) (e : Execution) (r : AttemptResult) : Acts (reach + 2) s (s.attemptResult e r) := by
  unfold State.attemptResult
  dsimp only
  split
  · exact (s.enterGap_acts.trans (State.updateStation_acts _ _ _ _)).trans (State.countResult_acts _ _ _ _)
  · exact s.enterGap_acts

theorem State.endBroadcast_acts (s : State) : Acts (reach + 1) s s.endBroadcast := by
  unfold State.endBroadcast
  split
  · split
    · exact s.stepEnd_acts _ _ _
    · exact Acts.refl s
  · exact Acts.refl s

/-! ### Responses -/

theorem State.discardUnread_acts (s : State) (h : HostId) : PortActs s (s.discardUnread h) := by
  unfold State.discardUnread
  dsimp only
  split
  · exact .single (PortAct.leave h _ _ _ ‹_›)
  · exact .refl

/-- A released pin changes the lane that waits and the pin, and no port otherwise. -/
theorem State.releasePin_port (s : State) (h k : HostId) :
    (s.releasePin h).port k = if h = k then { s.port k with pin := none } else s.port k := by
  have keep : (s.setPort h { s.port h with pin := none }).port k
      = if h = k then { s.port k with pin := none } else s.port k := by
    by_cases e : h = k
    · subst e; simp
    · simp [e]
  obtain ⟨hp, e⟩ | ⟨l, b, -, e⟩ := s.releasePin_cases h
  · rw [e]
    split
    · next hk => subst hk; rw [← hp]
    · rfl
  · rw [e, ← keep]
    split
    · obtain ⟨c, -, -, -, ht⟩ | ⟨-, ht⟩ := (s.setPort h { s.port h with pin := none }).takeBank_cases l <;> rw [ht] <;> rfl
    · rfl

theorem State.takeBank_front (s : State) (l m : LaneId) : ((s.takeBank l).lane m).front = (s.lane m).front := by
  obtain ⟨c, -, -, -, h⟩ | ⟨-, h⟩ := s.takeBank_cases l <;> rw [h] <;>
    (by_cases e : l = m
     · subst e; simp
     · simp [e, State.clearBank])

theorem State.releasePin_front (s : State) (h : HostId) (m : LaneId) :
    ((s.releasePin h).lane m).front = (s.lane m).front := by
  obtain ⟨-, e⟩ | ⟨l, b, -, e⟩ := s.releasePin_cases h <;> rw [e]
  split
  · rw [State.takeBank_front]; rfl
  · rfl

/-- A port with its unread response discarded is IDLE where it held one, and as it was where it held none. -/
theorem State.discardUnread_port (s : State) (h : HostId) :
    (s.discardUnread h).port h
      = if (s.port h).isReady then
          { s.port h with
            state := .idle
            frame := (s.port h).frame.uncarry
            sticky := { (s.port h).sticky with lostResponse := true }
            pin := none }
        else s.port h := by
  unfold State.discardUnread Port.isReady
  dsimp only
  cases (s.port h).state <;> simp [State.releasePin_port]

theorem State.discardUnread_front (s : State) (h : HostId) (m : LaneId) :
    ((s.discardUnread h).lane m).front = (s.lane m).front := by
  unfold State.discardUnread
  dsimp only
  split
  · rw [State.releasePin_front]; rfl
  · rfl

/-- After the discard the port is not READY, and in reset only if it was before. -/
theorem State.discardUnread_open (s : State) (h : HostId) (hi : (s.port h).state ≠ .inReset) :
    ((s.discardUnread h).port h).isReady = false ∧ ((s.discardUnread h).port h).state ≠ .inReset := by
  rw [State.discardUnread_port]
  cases hr : (s.port h).isReady
  · exact ⟨by simpa using hr, by simpa using hi⟩
  · exact ⟨rfl, by simp⟩

theorem State.respond_acts (s : State) (h : HostId) (tag : Byte) (st : Status) (r : Reply)
    (hi : (s.port h).state ≠ .inReset) (hp : ∀ l b, r.pins = some (l, b) → (s.lane l).front = some b) :
    PortActs s (s.respond h tag st r) := by
  obtain ⟨hr, hi'⟩ := s.discardUnread_open h hi
  refine (s.discardUnread_acts h).tail (PortAct.answer h st tag r hr hi' fun l b hb => ?_)
  rw [State.discardUnread_front]
  exact hp l b hb

end

end Sys2Proof.Machine
end


section
/-! SUPPORT. What an accepted request does, as a relation between states with one clause for each row, and for each row that
its verdict does no more. The requests of the block are then one relation, and so are its commands. -/

set_option Elab.async false

namespace Sys2Proof.Machine

/-- What an accepted request of a host does to the state, its own port apart. -/
inductive Edit (h : HostId) (s : State) : State → Prop where
  | same : Edit h s s
  | claim (l : LaneId) (hc : (s.lane l).condition = .free) :
      Edit h s (s.setLane l { Lane.fresh with condition := .owned h })
  | release (l : LaneId) (ho : (s.lane l).owner = some h) (hr : (s.lane l).run = .idle ∨ (s.lane l).run = .halted) :
      Edit h s ((s.freeSteps h (s.lane l).program.length).setLane l .fresh)
  | move (l : LaneId) (k : HostId) (ho : (s.lane l).owner = some h) (hr : (s.lane l).run ≠ .stopping) (hk : k ≠ h)
      (hi : s.inReset k = false) (hq : s.usageOf k + (s.lane l).program.length ≤ s.quotaOf k) :
      Edit h s (s.moveLane h k l)
  | adopt (l : LaneId) (hc : (s.lane l).condition = .orphan) (hr : (s.lane l).run = .idle)
      (hq : s.usageOf h + (s.lane l).program.length ≤ s.quotaOf h) :
      Edit h s ((s.gainUsage h (s.lane l).program.length).setLane l { s.lane l with condition := .owned h })
  | config (l : LaneId) (entries : List RawConfig) (c : LaneConfig) (hc : newConfig (s.lane l).config entries = some c)
      (ho : (s.lane l).owner = some h) (hr : (s.lane l).run = .idle ∨ (s.lane l).run = .halted) :
      Edit h s (s.setLane l { s.lane l with config := c })
  | arm (l : LaneId) (ho : (s.lane l).owner = some h) (hr : (s.lane l).run = .idle ∨ (s.lane l).run = .halted)
      (hp : (s.lane l).program ≠ []) :
      Edit h s (s.setLane l { s.lane l with run := .armed, position := 0, pending := false, disarmAtEnd := false })
  | disarm (l : LaneId) (ho : (s.lane l).owner = some h) (hr : (s.lane l).run = .armed) :
      Edit h s (s.setLane l { s.lane l with run := .idle })
  | disarmLater (l : LaneId) (ho : (s.lane l).owner = some h) (hr : (s.lane l).run.inPass = true)
      (hs : (s.lane l).run ≠ .stopping) : Edit h s (s.setLane l { s.lane l with disarmAtEnd := true })
  | arrive (l : LaneId) (ho : (s.lane l).owner = some h) (hr : (s.lane l).run ≠ .stopping) : Edit h s (s.arrive l).1
  | stop (l : LaneId) (ho : (s.lane l).owner = some h) (hr : (s.lane l).run ≠ .stopping) : Edit h s (s.stopLane l)
  | clearOverrun (l : LaneId) (ho : (s.lane l).owner = some h) :
      Edit h s (s.setLane l { s.lane l with overrun := 0 })
  | place (l : LaneId) (k : Nat) (program : List Step) (ho : (s.lane l).owner = some h)
      (he : (s.lane l).run.editable = true) (hp : program.length = (s.lane l).program.length + k)
      (hm : program.length ≤ Config.programMax) (hq : s.usageOf h + k ≤ s.quotaOf h) (hf : k ≤ s.freeCount) :
      Edit h s ((s.placeSteps h k).setProgram l program)
  | free (l : LaneId) (k : Nat) (program : List Step) (ho : (s.lane l).owner = some h)
      (he : (s.lane l).run.editable = true) (hp : program.length + k = (s.lane l).program.length) :
      Edit h s ((s.freeSteps h k).setProgram l program)
  | replace (l : LaneId) (p : Nat) (st : Step) (ho : (s.lane l).owner = some h)
      (he : (s.lane l).run.editable = true) : Edit h s (s.setProgram l ((s.lane l).program.set p st))
  | patch (l : LaneId) (p : Nat) (old st : Step) (data : List Byte) (ho : (s.lane l).owner = some h)
      (hp : (s.lane l).program[p]? = some old) (hs : old.patched data = some st) :
      Edit h s (s.setProgram l ((s.lane l).program.set p st))
  | subscribe (l : LaneId) (member : Bool) (hc : (s.lane l).condition ≠ .free) :
      Edit h s (s.setLane l { s.lane l with subscribers := put (s.lane l).subscribers h member })
  | mask (m : BitVec 16) (enable : Bool) : Edit h s (s.setMailbox h { s.mailbox h with mask := m, enable := enable })
  | submit (raw : RawStep) (st : Step) (limit interval : Nat) (tag : Byte) (hs : directStep raw = some st)
      (hl : 1 ≤ limit ∧ limit ≤ 8) (hq : (s.directQueue h).length < Config.directMax) :
      Edit h s (s.setDirectQueue h (s.directQueue h ++ [⟨st, limit, interval, tag, 0, false, none⟩]))
  | takeLease (hl : s.lease = none) : Edit h s { s with lease := some h, leaseLeft := Config.leaseTime }
  | renewLease : Edit h s { s with leaseLeft := Config.leaseTime }
  | dropLease : Edit h s { s with lease := none, leaseLeft := 0 }
  | settings (entries : List RawSetting) (r : Settings) (hn : newSettings s.settings entries = some r)
      (hu : entries.any (RawSetting.belowUsage s.usage) = false) : Edit h s (s.writeSettings entries r)
  | timer (t : Fin 4) (x : IntervalTimer) : Edit h s (s.setTimer t x)
  | lineReset (fda : Level) : Edit h s { s with fda := fda }.beginLineReset
  | goOff (hl : s.link = .idle ∨ s.link = .faulted) : Edit h s s.goOff
  | waitOff (hl : s.link ≠ .off ∧ s.link ≠ .idle ∧ s.link ≠ .faulted) : Edit h s { s with disableWaiting := true }

/-- The answer fits the state after the act: a response pins a front bank or none, a held LANE_STOP finds its lane STOPPING, and
a held LINK_DISABLE finds one waiting. -/
def AnswerFits (s : State) : Answer → Prop
  | .now r => ∀ l b, r.pins = some (l, b) → (s.lane l).front = some b
  | .held (.laneStop l) => (s.lane l).run = .stopping
  | .held .linkOff => s.disableWaiting = true

/-- The verdict does what an accepted request may do, and answers accordingly; a refusal has a status of its own and pins
nothing. -/
def Judged (h : HostId) (s : State) (v : Verdict) : Prop :=
  (∀ t a, v = .ok (t, a) → Edit h s t ∧ AnswerFits t a) ∧ ∀ st r, v = .error (st, r) → st ≠ .ok ∧ r.pins = none

/-! ### The verdicts' common checks -/

section
variable {h : HostId} {s : State}

theorem Judged.error (st : Status) {r : Reply} (hr : r.pins = none) (hst : st ≠ .ok := by decide) :
    Judged h s (.error (st, r)) := by
  refine ⟨fun t a hv => by simp at hv, fun st' r' hv => ?_⟩
  obtain ⟨rfl, rfl⟩ : st = st' ∧ r = r' := by simpa using hv
  exact ⟨hst, hr⟩

theorem Judged.refuse (st : Status) (hst : st ≠ .ok := by decide) : Judged h s (refuse st) := Judged.error st rfl hst

theorem Judged.ok {t : State} {a : Answer} (he : Edit h s t) (ha : AnswerFits t a) : Judged h s (.ok (t, a)) := by
  refine ⟨fun u b hv => ?_, fun st r hv => by simp at hv⟩
  obtain ⟨rfl, rfl⟩ : t = u ∧ a = b := by simpa using hv
  exact ⟨he, ha⟩

theorem Judged.accept {t : State} {r : Reply} (he : Edit h s t)
    (hp : ∀ l b, r.pins = some (l, b) → (t.lane l).front = some b) : Judged h s (accept t r) := .ok he hp

/-- An answer that is not drawn from a bank pins none. -/
theorem Judged.acceptPlain {t : State} {r : Reply} (he : Edit h s t) (hp : r.pins = none := by rfl) :
    Judged h s (Machine.accept t r) :=
  .accept he (by simp [hp])

theorem Judged.withArgs {α : Type} {p : Payload α} {act : α → State → Verdict} (ha : ∀ a, Judged h s (act a s)) :
    Judged h s (withArgs p act s) := by
  cases p with
  | fits a => exact ha a
  | misfit => exact .refuse _

theorem Judged.onLane {n : Byte} {act : LaneId → Verdict} (ha : ∀ l, Judged h s (act l)) : Judged h s (onLane n act) := by
  unfold Machine.onLane
  split
  · exact ha _
  · exact .refuse _

theorem Judged.asOwner {l : LaneId} {v : Verdict} (hv : (s.lane l).owner = some h → Judged h s v) :
    Judged h s (asOwner s h l v) := by
  unfold Machine.asOwner
  split
  · exact hv ‹_›
  · exact .refuse _

theorem Judged.asHolder {v : Verdict} (hv : s.lease = some h → Judged h s v) : Judged h s (asHolder s h v) := by
  unfold Machine.asHolder
  split
  · exact hv ‹_›
  · exact .refuse _

theorem Judged.asEditor {l : LaneId} {v : Verdict}
    (hv : (s.lane l).owner = some h → (s.lane l).run.editable = true → Judged h s v) :
    Judged h s (asEditor s h l v) := by
  refine .asOwner fun ho => ?_
  split
  · exact hv ho ‹_›
  · exact .refuse _

end

/-! ### Lanes -/

section
variable (h : HostId) (s : State)

theorem judgeLaneClaim_judged (c : LaneChoice) : Judged h s (judgeLaneClaim h c s) := by
  unfold judgeLaneClaim State.claimLane
  split
  · refine .onLane fun l => ?_
    split
    · exact .acceptPlain (.claim l ‹_›)
    · exact .refuse _
  · split
    next l hl =>
      have hc := List.find?_some hl
      exact .acceptPlain (.claim l (by simpa using hc))
    · exact .refuse _

theorem judgeLaneRelease_judged (n : Byte) : Judged h s (judgeLaneRelease h n s) := by
  refine .onLane fun l => .asOwner fun ho => ?_
  split
  · exact .acceptPlain (.release l ho (.inl ‹_›))
  · exact .acceptPlain (.release l ho (.inr ‹_›))
  · exact .refuse _

theorem judgeLaneHandover_judged (a : HandoverArgs) : Judged h s (judgeLaneHandover h a s) := by
  refine .onLane fun l => ?_
  split
  · exact .refuse _
  next k _ =>
    refine .asOwner fun ho => ?_
    by_cases hr : (s.lane l).run = .stopping
    · simpa [hr] using Judged.refuse _
    by_cases hk : k = h
    · simpa [hr, hk] using Judged.acceptPlain .same
    cases hi : s.inReset k
    · by_cases hq : s.quotaOf k < s.usageOf k + (s.lane l).program.length
      · simpa [hr, hk, hi, hq] using Judged.refuse _
      · simpa [hr, hk, hi, hq] using Judged.acceptPlain (.move l k ho hr hk hi (by omega))
    · simpa [hr, hk, hi] using Judged.refuse _

theorem judgeLaneAdopt_judged (n : Byte) : Judged h s (judgeLaneAdopt h n s) := by
  refine .onLane fun l => ?_
  dsimp only
  split
  · exact .refuse _
  next hc =>
    split
    · exact .refuse _
    · simp only [ne_eq, not_or, not_not] at hc
      exact .acceptPlain (.adopt l hc.1 hc.2 (by omega))

theorem judgeLaneConfig_judged (a : ConfigArgs) : Judged h s (judgeLaneConfig h a s) := by
  refine .onLane fun l => ?_
  dsimp only
  split
  · exact .refuse _
  next c hc =>
    refine .asOwner fun ho => ?_
    split
    · exact .acceptPlain (.config l _ c hc ho (.inl ‹_›))
    · exact .acceptPlain (.config l _ c hc ho (.inr ‹_›))
    · exact .refuse _

theorem judgeLaneArm_judged (n : Byte) : Judged h s (judgeLaneArm h n s) := by
  refine .onLane fun l => .asOwner fun ho => ?_
  have armed (hr : (s.lane l).run = .idle ∨ (s.lane l).run = .halted) :
      Judged h s (if (s.lane l).program = [] then refuse .empty
        else accept (s.setLane l { s.lane l with run := .armed, position := 0, pending := false, disarmAtEnd := false })
          (.armed (s.lane l).program.length)) := by
    split
    · exact .refuse _
    · exact .acceptPlain (.arm l ho hr ‹_›)
  dsimp only
  split
  · exact armed (.inl ‹_›)
  · exact armed (.inr ‹_›)
  · exact .refuse _

theorem judgeLaneDisarm_judged (n : Byte) : Judged h s (judgeLaneDisarm h n s) := by
  refine .onLane fun l => .asOwner fun ho => ?_
  dsimp only
  split
  · exact .acceptPlain (.disarm l ho ‹_›)
  · exact .acceptPlain .same
  · exact .acceptPlain .same
  · exact .refuse _
  all_goals
    next hr => exact .acceptPlain (.disarmLater l ho (by rw [hr]; rfl) (by simp [hr]))

theorem judgeLaneRun_judged (n : Byte) : Judged h s (judgeLaneRun h n s) := by
  refine .onLane fun l => .asOwner fun ho => ?_
  split
  · exact .refuse _
  · exact .acceptPlain (.arrive l ho ‹_›)

theorem judgeLaneStop_judged (n : Byte) : Judged h s (judgeLaneStop h n s) := by
  refine .onLane fun l => .asOwner fun ho => ?_
  dsimp only
  split
  · exact .refuse _
  next hr =>
    split
    next ht => exact .ok (.stop l ho hr) ht
    · exact .acceptPlain (.stop l ho hr)

theorem judgeLaneQuery_judged (n : Byte) : Judged h s (judgeLaneQuery n s) := .onLane fun _ => .acceptPlain .same

theorem judgeLaneQueryClear_judged (n : Byte) : Judged h s (judgeLaneQueryClear h n s) :=
  .onLane fun l => .asOwner fun ho => .acceptPlain (.clearOverrun l ho)

/-! ### Programs -/

theorem grow_judged (l : LaneId) (k : Nat) (program : List Step) (ho : (s.lane l).owner = some h)
    (he : (s.lane l).run.editable = true) (hp : program.length = (s.lane l).program.length + k) :
    Judged h s (s.grow h l k program) := by
  unfold State.grow
  split
  · exact .refuse _
  · split
    · exact .refuse _
    · split
      · exact .refuse _
      · exact .acceptPlain (.place l k program ho he hp (by omega) (by omega) (by omega))

theorem judgeProgAppend_judged (a : AppendArgs) : Judged h s (judgeProgAppend h a s) := by
  unfold judgeProgAppend
  split
  · exact .refuse _
  · refine .onLane fun l => .asEditor fun ho he => ?_
    split
    · exact .refuse _
    · exact grow_judged h s l _ _ ho he (by simp)

theorem judgeProgInsert_judged (a : PlaceArgs) : Judged h s (judgeProgInsert h a s) := by
  refine .onLane fun l => .asEditor fun ho he => ?_
  dsimp only
  split
  · exact .refuse _
  · split
    · exact .refuse _
    · exact grow_judged h s l _ _ ho he (by simp; omega)

theorem judgeProgReplace_judged (a : PlaceArgs) : Judged h s (judgeProgReplace h a s) := by
  refine .onLane fun l => .asEditor fun ho he => ?_
  dsimp only
  split
  · exact .refuse _
  · split
    · exact .refuse _
    · exact .acceptPlain (.replace l _ _ ho he)

theorem judgeProgRemove_judged (a : RemoveArgs) : Judged h s (judgeProgRemove h a s) := by
  refine .onLane fun l => .asEditor fun ho he => ?_
  dsimp only
  split
  · exact .refuse _
  next hp =>
    split
    · exact .refuse _
    · refine .acceptPlain (.free l 1 _ ho he ?_)
      rw [List.length_eraseIdx_of_lt (by omega)]
      omega

theorem judgeProgClear_judged (n : Byte) : Judged h s (judgeProgClear h n s) := by
  refine .onLane fun l => .asEditor fun ho he => ?_
  dsimp only
  split
  · exact .refuse _
  · exact .acceptPlain (.free l _ [] ho he (by simp))

theorem judgeProgPatch_judged (a : PatchArgs) : Judged h s (judgeProgPatch h a s) := by
  refine .onLane fun l => .asOwner fun ho => ?_
  dsimp only
  split
  · exact .refuse _
  next st hst =>
    obtain ⟨old, hold, hs⟩ := Option.bind_eq_some_iff.mp hst
    split
    · exact .acceptPlain (.patch l _ old st _ ho hold hs)
    · exact .refuse _

theorem judgeProgRead_judged (a : ReadArgs) : Judged h s (judgeProgRead a s) := by
  refine .onLane fun l => ?_
  dsimp only
  split
  · exact .refuse _
  · split
    · exact .refuse _
    · exact .acceptPlain .same

/-! ### Results, events and direct requests -/

theorem judgeResultRead_judged (a : ResultArgs) : Judged h s (judgeResultRead a s) := by
  refine .onLane fun l => ?_
  dsimp only
  split
  · exact .refuse _
  · split
    · exact .refuse _
    · split
      · exact .refuse _
      next b hb =>
        split
        · exact .error _ rfl
        · refine .accept .same fun m c hmc => ?_
          obtain ⟨rfl, rfl⟩ : l = m ∧ b = c := by simpa [Reply.pins] using hmc
          exact hb

theorem subscribe_judged (l : LaneId) (member : Bool) : Judged h s (s.subscribe h l member) := by
  unfold State.subscribe
  split
  · exact .refuse _
  · exact .acceptPlain (.subscribe l member ‹_›)

theorem judgeEventFetch_judged (n : Byte) : Judged h s (judgeEventFetch h n s) := by
  unfold judgeEventFetch
  dsimp only
  split
  · exact .refuse _
  · exact .acceptPlain .same

theorem judgeEventMask_judged (a : MaskArgs) : Judged h s (judgeEventMask h a s) := by
  unfold judgeEventMask
  split
  · exact .refuse _
  · exact .acceptPlain (.mask _ _)

theorem judgeDirectSubmit_judged (a : DirectArgs) : Judged h s (judgeDirectSubmit h a s) := by
  unfold judgeDirectSubmit
  split
  · exact .refuse _
  next st hst =>
    split
    · exact .refuse _
    · dsimp only
      split
      · exact .refuse _
      · exact .acceptPlain (.submit _ st _ _ _ hst (by omega) (by omega))

/-! ### Lease, settings, timers and link -/

theorem judgeLeaseTake_judged (u : Unit) : Judged h s (judgeLeaseTake h u s) := by
  unfold judgeLeaseTake
  split
  · exact .acceptPlain (.takeLease ‹_›)
  · split
    · exact .acceptPlain .renewLease
    · exact .error _ rfl

theorem judgeSettingsWrite_judged (entries : List RawSetting) : Judged h s (judgeSettingsWrite h entries s) := by
  unfold judgeSettingsWrite
  split
  · exact .refuse _
  next r hr =>
    refine .asHolder fun _ => ?_
    split
    · exact .refuse _
    · split
      · exact .refuse _
      next hu => exact .acceptPlain (.settings entries r hr (by simpa using hu))

theorem judgeTimerSet_judged (a : TimerArgs) : Judged h s (judgeTimerSet h a s) := by
  unfold judgeTimerSet
  split
  · split
    · exact .refuse _
    · exact .asHolder fun _ => .acceptPlain (.timer _ _)
  · exact .refuse _

theorem judgeLinkEnable_judged (fda : Level) (u : Unit) : Judged h s (judgeLinkEnable h fda u s) := by
  refine .asHolder fun _ => ?_
  split
  · exact .refuse _
  · exact .acceptPlain (.lineReset fda)

theorem judgeLinkDisable_judged (u : Unit) : Judged h s (judgeLinkDisable h u s) := by
  refine .asHolder fun _ => ?_
  have waits (hl : s.link ≠ .off ∧ s.link ≠ .idle ∧ s.link ≠ .faulted) :
      Judged h s (.ok ({ s with disableWaiting := true }, .held .linkOff)) := .ok (.waitOff hl) rfl
  split
  · exact .acceptPlain .same
  · exact .acceptPlain (.goOff (.inl ‹_›))
  · exact .acceptPlain (.goOff (.inr ‹_›))
  all_goals
    next hl => exact waits (by simp [hl])

theorem judgeLinkReset_judged (fda : Level) (u : Unit) : Judged h s (judgeLinkReset h fda u s) := by
  refine .asHolder fun _ => ?_
  split
  · exact .acceptPlain .same
  · exact .acceptPlain (.lineReset fda)

end

/-! ### The commands -/

/-- A request of the catalogue is the taking of its verdict at its port, by its own row and by a frame's end alike (R165). -/
theorem exec_of_asked {i : Instr} {h : HostId} {tag : Byte} (hi : i.asked = some (h, tag)) :
    ∃ act : State → Verdict, (∀ s, Judged h s (act s)) ∧ (∀ s : State, s.route i = s.request h tag act)
      ∧ ∀ s, exec i s = .next (s.request h tag act) := by
  cases i
  case powerOn | powerOnRelease | portReset | portResetRelease | frameStart | statusByteClockedOut | frameEnd
      | responseExpiry | poll | trgSample | timerExpiry | chainTrigger | grant | segmentGuardEnd | frameFullySent
      | replyTimeout | replyEnd | gapEnd | retryExpiry | probeTimerExpiry | leaseExpiry | lineFault
      | recoveryWatchRestart | recoveryWatchExpiry | lineResetGuardEnd | lineResetDriveEnd | lineResetHoldEnd
      | replyStartMark => exact absurd hi (by simp [Instr.asked])
  all_goals
    simp only [Instr.asked, Option.some.injEq, Prod.mk.injEq] at hi
    obtain ⟨rfl, rfl⟩ := hi
  case laneClaim => exact ⟨_, fun s => .withArgs fun a => judgeLaneClaim_judged _ s a, fun _ => rfl, fun _ => rfl⟩
  case laneRelease => exact ⟨_, fun s => .withArgs fun a => judgeLaneRelease_judged _ s a, fun _ => rfl, fun _ => rfl⟩
  case laneHandover => exact ⟨_, fun s => .withArgs fun a => judgeLaneHandover_judged _ s a, fun _ => rfl, fun _ => rfl⟩
  case laneAdopt => exact ⟨_, fun s => .withArgs fun a => judgeLaneAdopt_judged _ s a, fun _ => rfl, fun _ => rfl⟩
  case laneConfig => exact ⟨_, fun s => .withArgs fun a => judgeLaneConfig_judged _ s a, fun _ => rfl, fun _ => rfl⟩
  case laneArm => exact ⟨_, fun s => .withArgs fun a => judgeLaneArm_judged _ s a, fun _ => rfl, fun _ => rfl⟩
  case laneDisarm => exact ⟨_, fun s => .withArgs fun a => judgeLaneDisarm_judged _ s a, fun _ => rfl, fun _ => rfl⟩
  case laneRun => exact ⟨_, fun s => .withArgs fun a => judgeLaneRun_judged _ s a, fun _ => rfl, fun _ => rfl⟩
  case laneStop => exact ⟨_, fun s => .withArgs fun a => judgeLaneStop_judged _ s a, fun _ => rfl, fun _ => rfl⟩
  case laneQuery => exact ⟨_, fun s => .withArgs fun a => judgeLaneQuery_judged _ s a, fun _ => rfl, fun _ => rfl⟩
  case laneQueryClear => exact ⟨_, fun s => .withArgs fun a => judgeLaneQueryClear_judged _ s a, fun _ => rfl, fun _ => rfl⟩
  case progAppend => exact ⟨_, fun s => .withArgs fun a => judgeProgAppend_judged _ s a, fun _ => rfl, fun _ => rfl⟩
  case progInsert => exact ⟨_, fun s => .withArgs fun a => judgeProgInsert_judged _ s a, fun _ => rfl, fun _ => rfl⟩
  case progReplace => exact ⟨_, fun s => .withArgs fun a => judgeProgReplace_judged _ s a, fun _ => rfl, fun _ => rfl⟩
  case progRemove => exact ⟨_, fun s => .withArgs fun a => judgeProgRemove_judged _ s a, fun _ => rfl, fun _ => rfl⟩
  case progClear => exact ⟨_, fun s => .withArgs fun a => judgeProgClear_judged _ s a, fun _ => rfl, fun _ => rfl⟩
  case progPatch => exact ⟨_, fun s => .withArgs fun a => judgeProgPatch_judged _ s a, fun _ => rfl, fun _ => rfl⟩
  case progRead => exact ⟨_, fun s => .withArgs fun a => judgeProgRead_judged _ s a, fun _ => rfl, fun _ => rfl⟩
  case resultRead => exact ⟨_, fun s => .withArgs fun a => judgeResultRead_judged _ s a, fun _ => rfl, fun _ => rfl⟩
  case resultWatch => exact ⟨_, fun s => .withArgs fun _ => .onLane fun l => subscribe_judged _ s l _, fun _ => rfl, fun _ => rfl⟩
  case resultUnwatch => exact ⟨_, fun s => .withArgs fun _ => .onLane fun l => subscribe_judged _ s l _, fun _ => rfl, fun _ => rfl⟩
  case eventFetch => exact ⟨_, fun s => .withArgs fun a => judgeEventFetch_judged _ s a, fun _ => rfl, fun _ => rfl⟩
  case eventMask => exact ⟨_, fun s => .withArgs fun a => judgeEventMask_judged _ s a, fun _ => rfl, fun _ => rfl⟩
  case directSubmit => exact ⟨_, fun s => .withArgs fun a => judgeDirectSubmit_judged _ s a, fun _ => rfl, fun _ => rfl⟩
  case linkEnable => exact ⟨_, fun s => .withArgs fun a => judgeLinkEnable_judged _ s _ a, fun _ => rfl, fun _ => rfl⟩
  case linkDisable => exact ⟨_, fun s => .withArgs fun a => judgeLinkDisable_judged _ s a, fun _ => rfl, fun _ => rfl⟩
  case linkReset => exact ⟨_, fun s => .withArgs fun a => judgeLinkReset_judged _ s _ a, fun _ => rfl, fun _ => rfl⟩
  case leaseTake => exact ⟨_, fun s => .withArgs fun a => judgeLeaseTake_judged _ s a, fun _ => rfl, fun _ => rfl⟩
  case leaseRenew => exact ⟨_, fun _ => .withArgs fun _ => .asHolder fun _ => .acceptPlain .renewLease, fun _ => rfl, fun _ => rfl⟩
  case leaseDrop => exact ⟨_, fun _ => .withArgs fun _ => .asHolder fun _ => .acceptPlain .dropLease, fun _ => rfl, fun _ => rfl⟩
  case timerSet => exact ⟨_, fun s => .withArgs fun a => judgeTimerSet_judged _ s a, fun _ => rfl, fun _ => rfl⟩
  case settingsWrite => exact ⟨_, fun s => .withArgs fun a => judgeSettingsWrite_judged _ s a, fun _ => rfl, fun _ => rfl⟩
  case settingsRead => exact ⟨_, fun _ => .withArgs fun _ => .acceptPlain .same, fun _ => rfl, fun _ => rfl⟩
  case deviceQuery => exact ⟨_, fun _ => .withArgs fun _ => .acceptPlain .same, fun _ => rfl, fun _ => rfl⟩

end Sys2Proof.Machine
end


section
/-! SUPPORT. The part's commands over the relations of acts: the port unit's commands as acts of the port unit and requests, the
events of the trigger unit and of the line as runs of acts. An invariant is kept by every step where it is kept by every
act, by every request's edit, and by the few commands that are neither. -/

set_option Elab.async false

variable {reach : Nat}

namespace Sys2Proof.Machine

/-! ### Ports that are not BUSY -/

/-- An act of another block reaches a BUSY port alone: it makes its held response ready (R165). -/
theorem Act.port_of_not_busy {s t : State} (h : Act reach s t) (k : HostId) (hb : (s.port k).isBusy = false) :
    t.port k = s.port k := by
  cases h with
  | takeBank l => obtain ⟨b, -, -, -, e⟩ | ⟨-, e⟩ := s.takeBank_cases l <;> rw [e] <;> rfl
  | event j b => rw [State.queueEvent_eq]; rfl
  | released j kind r hr =>
    by_cases e : j = k
    · subst e
      obtain ⟨q, hq, -⟩ | hq := (s.port j).released_cases kind r
      · simp [Port.isBusy, hq] at hb
      · simp [hq]
    · simp [e]
  | control t ht => rw [ht]; rfl
  | line hn t ht => rw [ht]; rfl
  | _ => rfl

theorem Acts.port_of_not_busy {s t : State} (h : Acts reach s t) (k : HostId) (hb : (s.port k).isBusy = false) :
    t.port k = s.port k := by
  refine Acts.keeps (P := fun u => u.port k = s.port k) (fun u v huv hu => ?_) h rfl
  rw [huv.port_of_not_busy k (by rw [hu]; exact hb), hu]

/-- A request reaches its port by its response alone. -/
theorem Edit.port_of_not_busy {h : HostId} {s t : State} (he : Edit h s t) (k : HostId) (hb : (s.port k).isBusy = false) :
    t.port k = s.port k := by
  cases he with
  | arrive l => exact (s.arrive_acts (reach := 0) l).port_of_not_busy k hb
  | stop l => exact (s.stopLane_acts (reach := 0) l).port_of_not_busy k hb
  | lineReset fda => exact (State.beginLineReset_acts (reach := 0) { s with fda := fda }).port_of_not_busy k hb
  | goOff => exact (s.goOff_acts (reach := 0)).port_of_not_busy k hb
  | settings entries r => unfold State.writeSettings; dsimp only; split <;> rfl
  | _ => rfl

theorem State.not_busy_of_accepts {s : State} {h : HostId} (ha : s.accepts h = true) : (s.port h).isBusy = false := by
  unfold State.accepts at ha
  unfold Port.isBusy
  cases hs : (s.port h).state <;> simp_all

theorem State.not_inReset_of_accepts {s : State} {h : HostId} (ha : s.accepts h = true) :
    (s.port h).state ≠ .inReset := (State.state_of_accepts ha).1

/-- A port that takes no request is BUSY or in reset. -/
theorem State.state_of_not_accepts {s : State} {h : HostId} (ha : s.accepts h = false) :
    (s.port h).state = .inReset ∨ ∃ q, (s.port h).state = .busy q := by
  unfold State.accepts at ha
  cases hs : (s.port h).state <;> simp_all

theorem Edit.accepts {h : HostId} {s t : State} (he : Edit h s t) (ha : s.accepts h = true) : t.accepts h = true := by
  have hp := he.port_of_not_busy h (State.not_busy_of_accepts ha)
  simpa only [State.accepts, hp] using ha

/-! ### Requests -/

/-- What an invariant has to keep at the ports: the acts of the port unit, the edits of requests, and a response held. -/
structure KeptAtPorts (P : State → Prop) : Prop where
  port : ∀ s t, PortAct s t → P s → P t
  edit : ∀ h s t, s.accepts h = true → Edit h s t → P s → P t
  hold : ∀ h s k tag, s.accepts h = true → AnswerFits s (.held k) → P s → P (s.hold h tag k)

section
variable {P : State → Prop} (hP : KeptAtPorts P)
include hP

theorem KeptAtPorts.ports {s t : State} (h : PortActs s t) (hs : P s) : P t := PortActs.keeps hP.port h hs

theorem KeptAtPorts.respond {s : State} (h : HostId) (tag : Byte) (st : Status) (r : Reply) (ha : s.accepts h = true)
    (hp : ∀ l b, r.pins = some (l, b) → (s.lane l).front = some b) (hs : P s) : P (s.respond h tag st r) :=
  hP.ports (s.respond_acts h tag st r (State.not_inReset_of_accepts ha) hp) hs

theorem KeptAtPorts.request {s : State} {h : HostId} {act : State → Verdict} (tag : Byte) (hj : Judged h s (act s))
    (hs : P s) : P (s.request h tag act) := by
  cases ha : s.accepts h with
  | false =>
    obtain hr | ⟨q, hq⟩ := State.state_of_not_accepts ha
    · simpa [State.request, hr] using hs
    · have drop : PortAct s (s.setPort h { s.port h with sticky := { (s.port h).sticky with dropped := true } }) :=
        .port h _ rfl rfl fun hr => by simp [hq] at hr
      simpa [State.request, hq] using hP.port _ _ drop hs
  | true =>
    obtain ⟨hReset, hBusy⟩ := State.state_of_accepts ha
    obtain ⟨e, -⟩ | ⟨⟨q, e⟩, -⟩ | ⟨st, r, hv, e⟩ | ⟨t, r, hv, e⟩ | ⟨t, k, hv, e⟩ := s.request_cases h tag act
    · exact absurd e hReset
    · exact absurd e (hBusy q)
    · have hr := (hj.2 st r hv).2
      rw [e]
      exact hP.respond h tag st r ha (by simp [hr]) hs
    · obtain ⟨hedit, hfits⟩ := hj.1 t _ hv
      rw [e]
      exact hP.respond h tag .ok r (hedit.accepts ha) hfits (hP.edit h s t ha hedit hs)
    · obtain ⟨hedit, hfits⟩ := hj.1 t _ hv
      rw [e]
      exact hP.hold h t k tag (hedit.accepts ha) hfits (hP.edit h s t ha hedit hs)

/-- A request of the catalogue keeps it, by its own row. -/
theorem KeptAtPorts.exec_of_asked {i : Instr} {h : HostId} {tag : Byte} (hi : i.asked = some (h, tag)) {s t : State}
    (he : exec i s = .next t) (hs : P s) : P t := by
  obtain ⟨act, hj, -, hx⟩ := Machine.exec_of_asked hi
  obtain rfl : s.request h tag act = t := by simpa [hx s] using he
  exact hP.request tag (hj s) hs

theorem KeptAtPorts.route {i : Instr} {h : HostId} {tag : Byte} (hi : i.asked = some (h, tag)) {s : State} (hs : P s) :
    P (s.route i) := by
  obtain ⟨act, hj, hr, -⟩ := Machine.exec_of_asked hi
  rw [hr s]
  exact hP.request tag (hj s) hs

end

/-! ### Frames -/

/-- What a frame spells is a request of its port and its tag (R161). -/
theorem asked_of_decodeRequest {h : HostId} {tag code : Byte} {p : List Byte} {fda : Level} {i : Instr}
    (hd : decodeRequest h tag code p fda = some i) : i.asked = some (h, tag) := by
  unfold decodeRequest at hd
  split at hd
  case h_34 => simp at hd
  case h_10 =>
    obtain rfl := Option.some.inj hd
    unfold decodeQuery
    split
    · split
      · rfl
      · split <;> rfl
    · rfl
  all_goals
    obtain rfl := Option.some.inj hd
    rfl

theorem State.expire_acts (s : State) (h : HostId) : PortActs s (s.expire h) := by
  unfold State.expire
  dsimp only
  split
  · exact .single (PortAct.leave h _ _ _ ‹_›)
  · exact .refl

theorem Port.statusOut_state (p : Port) : p.statusOut.state = p.state := by
  unfold Port.statusOut
  split
  · split <;> rfl
  · rfl

theorem Port.statusOut_pin (p : Port) : p.statusOut.pin = p.pin := by
  unfold Port.statusOut
  split
  · split <;> rfl
  · rfl

theorem Port.statusOut_clear (p : Port) (hc : p.sticky = .clear) : p.statusOut.sticky = .clear := by
  unfold Port.statusOut
  split
  · split
    · exact hc
    · dsimp only
      rw [hc]
      rfl
  · exact hc

/-- The frame of a port over, or its status byte out, or both. -/
theorem State.statusOut_acts (s : State) (h : HostId) (frame : FrameState) :
    PortActs s (s.setPort h { (s.port h).statusOut with frame := frame }) :=
  .single (PortAct.port h _ (s.port h).statusOut_state (s.port h).statusOut_pin fun _ hc => (s.port h).statusOut_clear hc)

theorem State.settleResponse_acts (s : State) (h : HostId) (f : Frame) (clocked : Nat) :
    PortActs s (s.settleResponse h f clocked) := by
  unfold State.settleResponse
  dsimp only
  split
  next r hc hr =>
    have left : PortActs s ((s.setPort h { s.port h with
        state := .idle
        sticky := { (s.port h).sticky with
          truncated := (s.port h).sticky.truncated || !decide (f.out.length ≤ clocked) } }).releasePin h) :=
      .single (PortAct.leave h _ (s.port h).frame _ hr)
    split
    · unfold State.readOut
      split
      · refine left.tail (PortAct.fetched h _ _ ?_)
        rw [State.releasePin_port, if_pos rfl, State.port_setPort_self]
        simp
      · exact left
    · exact left
  · exact .refl

section
variable {P : State → Prop} (hP : KeptAtPorts P)
include hP

theorem KeptAtPorts.judgeFrame {s : State} (h : HostId) (bytes : List Byte) (fda : Level) (hs : P s) :
    P (s.judgeFrame h bytes fda) := by
  have taken (ha : s.accepts h = true) :
      P (match parseFrame bytes with
        | some (0x00#8, _, []) => s
        | some (code, tag, payload) => s.takeRequest h code tag payload fda
        | none => s.respond h (bytes.getD 1 0x00#8) .badFrame .nothing) := by
    split
    · exact hs
    · unfold State.takeRequest
      split
      · exact hP.respond _ _ _ _ ha (by simp [Reply.pins]) hs
      · split
        · exact hP.respond _ _ _ _ ha (by simp [Reply.pins]) hs
        next i hi => exact hP.route (asked_of_decodeRequest hi) hs
    · exact hP.respond _ _ _ _ ha (by simp [Reply.pins]) hs
  unfold State.judgeFrame
  dsimp only
  split
  · exact hs
  next q hq =>
    split
    · exact hs
    · exact hP.port _ _ (.port h _ rfl rfl fun hr => by simp [hq] at hr) hs
  next hi hb =>
    refine taken ?_
    unfold State.accepts
    cases hp : (s.port h).state <;> simp_all

/-- The begin of a frame writes the frame's own field alone. -/
theorem KeptAtPorts.frameStart {s t : State} {h : HostId} (he : exec (.frameStart h) s = .next t) (hs : P s) : P t := by
  have begin (f : FrameState) : P (s.setPort h { s.port h with frame := f }) :=
    hP.port _ _ (.port h _ rfl rfl fun _ hc => hc) hs
  simp only [exec, execFrameStart] at he
  split at he <;> obtain rfl := Host.Outcome.next.inj he
  · exact begin _
  · exact begin _
  · exact begin _
  · exact hs

theorem KeptAtPorts.statusByteClockedOut {s t : State} {h : HostId} (he : exec (.statusByteClockedOut h) s = .next t)
    (hs : P s) : P t := by
  obtain rfl := Host.Outcome.next.inj he
  exact hP.ports (s.statusOut_acts h _) hs

theorem KeptAtPorts.frameEnd {s t : State} {h : HostId} {bytes : List Byte} {fda : Level}
    (he : exec (.frameEnd h bytes fda) s = .next t) (hs : P s) : P t := by
  have ended : P (s.setPort h { s.port h with frame := .none }) :=
    hP.port _ _ (.port h _ rfl rfl fun _ hc => hc) hs
  simp only [exec, execFrameEnd] at he
  split at he
  · obtain rfl := Host.Outcome.next.inj he
    exact hs
  · obtain rfl := Host.Outcome.next.inj he
    exact ended
  next f hf =>
    split at he <;> obtain rfl := Host.Outcome.next.inj he
    · unfold State.endEmptyFrame
      dsimp only
      split
      · exact hP.ports (State.expire_acts _ h) ended
      · exact ended
    · exact hP.judgeFrame h bytes fda
        (hP.ports (State.settleResponse_acts _ h f _) (hP.ports (s.statusOut_acts h .none) hs))

theorem KeptAtPorts.responseExpiry {s t : State} {h : HostId} (he : exec (.responseExpiry h) s = .next t) (hs : P s) :
    P t := by
  simp only [exec, execResponseExpiry] at he
  split at he <;> obtain rfl := Host.Outcome.next.inj he
  · exact hP.ports (s.expire_acts h) hs
  · exact hs

theorem KeptAtPorts.poll {s t : State} {h : HostId} {tag check : Byte} {p : List Byte}
    (he : exec (.poll h tag p check) s = .next t) (hs : P s) : P t := by
  obtain rfl := Host.Outcome.next.inj he
  exact hP.judgeFrame h _ _ hs

end

/-! ### Events -/

end Sys2Proof.Machine

namespace Sys2Proof

/-- The command is an event of the trigger unit, the arbiter, the settings unit or the field line, in the table's order. -/
def Instr.occurs : Instr → Bool
  | .trgSample _ _ | .timerExpiry _ | .chainTrigger _ | .grant _ | .segmentGuardEnd _ | .frameFullySent | .replyTimeout
  | .replyEnd _ | .gapEnd _ | .retryExpiry _ | .probeTimerExpiry | .leaseExpiry | .lineFault | .recoveryWatchRestart
  | .recoveryWatchExpiry | .lineResetGuardEnd _ | .lineResetDriveEnd | .lineResetHoldEnd _ | .replyStartMark => true
  | _ => false

end Sys2Proof

namespace Sys2Proof.Machine

theorem Acts.line {s : State} (t : State)
    (ht : t = { s with
      exec := t.exec, link := t.link, phaseLeft := t.phaseLeft, segment := t.segment
      faultAnnounced := t.faultAnnounced, disableWaiting := t.disableWaiting, watchLeft := t.watchLeft
      fda := t.fda }) : Acts (reach + 2) s t := (Act.line (by omega) t ht).acts

theorem Acts.control {s : State} (t : State)
    (ht : t = { s with
      samplers := t.samplers, timers := t.timers, chainDue := t.chainDue, directPtr := t.directPtr
      lanePtr := t.lanePtr, probe := t.probe, fda := t.fda, leaseLeft := t.leaseLeft }) : Acts reach s t :=
  (Act.control t ht).acts

theorem execTrgSample_acts {s t : State} {x : Fin 4} {v : Level} (he : execTrgSample x v s = .next t) :
    Acts reach s t := by
  have sampled (m : Table 4 Sampler) : Acts reach s { s with samplers := m } := .control _ rfl
  unfold execTrgSample at he
  dsimp only at he
  split at he
  · obtain rfl := Host.Outcome.next.inj he
    exact .refl s
  · split at he <;> obtain rfl := Host.Outcome.next.inj he
    · exact (sampled _).trans (State.deliver_acts _ _)
    · exact sampled _

theorem execTimerExpiry_acts {s t : State} {i : Fin 4} (he : execTimerExpiry i s = .next t) :
    Acts reach s t := by
  unfold execTimerExpiry at he
  dsimp only at he
  split at he <;> obtain rfl := Host.Outcome.next.inj he
  · exact (Acts.control (s := s) (s.setTimer i _) rfl).trans (State.deliver_acts _ _)
  · exact .refl s

theorem execChainTrigger_acts {s t : State} {y : LaneId} (he : execChainTrigger y s = .next t) :
    Acts reach s t := by
  unfold execChainTrigger at he
  split at he <;> obtain rfl := Host.Outcome.next.inj he
  · exact (Acts.control (s := s) { s with chainDue := s.chainDue.erase y } rfl).trans (State.deliver_acts _ _)
  · exact .refl s

theorem execGrant_acts {s t : State} {fda : Level} (he : execGrant fda s = .next t) :
    Acts (reach + 2) s t := by
  unfold execGrant at he
  split at he
  · split at he <;> obtain rfl := Host.Outcome.next.inj he
    · exact (Acts.control (s := s) { s with fda := fda } rfl).trans
        ((State.giveGrant_acts _ _).trans (State.drive_acts _ _))
    · exact .refl s
  · obtain rfl := Host.Outcome.next.inj he
    exact .refl s

theorem execSegmentGuardEnd_acts {s t : State} {fda : Level} (he : execSegmentGuardEnd fda s = .next t) :
    Acts (reach + 2) s t := by
  have sampled : Acts (reach + 2) s { s with fda := fda } := .control _ rfl
  unfold execSegmentGuardEnd at he
  split at he
  · dsimp only at he
    split at he <;> obtain rfl := Host.Outcome.next.inj he
    next ht => exact sampled.trans (State.frameStart_acts ht)
    · exact sampled.trans ((State.stepEnd_acts _ _ _ _).trans (State.lineFree_acts _))
  · obtain rfl := Host.Outcome.next.inj he
    exact .refl s

theorem execFrameFullySent_acts {s t : State} (he : execFrameFullySent s = .next t) :
    Acts (reach + 2) s t := by
  unfold execFrameFullySent at he
  split at he
  · dsimp only at he
    split at he <;> obtain rfl := Host.Outcome.next.inj he
    · exact .line _ rfl
    · exact .line _ rfl
  · obtain rfl := Host.Outcome.next.inj he
    exact .refl s

theorem execReplyStartMark_acts {s t : State} (he : execReplyStartMark s = .next t) :
    Acts (reach + 2) s t := by
  unfold execReplyStartMark at he
  split at he <;> obtain rfl := Host.Outcome.next.inj he
  · exact .line _ rfl
  · exact .line _ rfl
  · exact .refl s

theorem execReplyTimeout_acts {s t : State} (he : execReplyTimeout s = .next t) :
    Acts (reach + 2) s t := by
  unfold execReplyTimeout at he
  split at he <;> obtain rfl := Host.Outcome.next.inj he
  · exact s.attemptResult_acts _ _
  · exact .refl s

theorem execReplyEnd_acts {s t : State} {reply : ReplyWire} (he : execReplyEnd reply s = .next t) :
    Acts (reach + 2) s t := by
  unfold execReplyEnd at he
  split at he
  · split at he <;> obtain rfl := Host.Outcome.next.inj he
    · exact s.attemptResult_acts _ _
    · exact .refl s
  · obtain rfl := Host.Outcome.next.inj he
    exact .refl s

theorem execGapEnd_acts {s t : State} {fda : Level} (he : execGapEnd fda s = .next t) :
    Acts (reach + 2) s t := by
  unfold execGapEnd at he
  split at he <;> obtain rfl := Host.Outcome.next.inj he
  · exact (Acts.control (s := s) { s with fda := fda } rfl).trans
      ((State.endBroadcast_acts _).trans (State.lineFree_acts _))
  · exact .refl s

/-- The head of a direct queue leaves its retry wait (R71). -/
theorem State.awake_acts (s : State) (h : HostId) {r : DirectRequest} {rest : List DirectRequest}
    (hq : s.directQueue h = r :: rest) : Acts reach s (s.setDirectQueue h ({ r with retryLeft := none } :: rest)) := by
  refine (Act.queue h _ (by simp [hq]) fun x hx => ?_).acts
  rw [hq]
  obtain rfl | hx := List.mem_cons.mp hx
  · exact ⟨r, by simp, rfl⟩
  · exact ⟨x, by simp [hx], rfl⟩

theorem execRetryExpiry_acts {s t : State} {who : RetryHolder} (he : execRetryExpiry who s = .next t) :
    Acts reach s t := by
  cases who with
  | lane l =>
    simp only [execRetryExpiry] at he
    split at he <;> obtain rfl := Host.Outcome.next.inj he
    · exact Acts.setLane s l (.pass rfl rfl rfl rfl rfl rfl (.inl rfl))
    · exact .refl s
  | direct h =>
    simp only [execRetryExpiry] at he
    split at he <;> obtain rfl := Host.Outcome.next.inj he
    next r rest hq => exact (State.awake_acts s h hq)
    · exact .refl s

theorem execProbeTimerExpiry_acts {s t : State} (he : execProbeTimerExpiry s = .next t) :
    Acts reach s t := by
  unfold execProbeTimerExpiry at he
  split at he <;> obtain rfl := Host.Outcome.next.inj he
  · exact .control _ rfl
  · exact .refl s

theorem execLeaseExpiry_acts {s t : State} (he : execLeaseExpiry s = .next t) :
    Acts reach s t := by
  unfold execLeaseExpiry at he
  split at he
  · split at he <;> obtain rfl := Host.Outcome.next.inj he
    · exact (Act.unlease (s := s)).acts.trans (State.queueEvent_acts _ _ _)
    · exact .refl s
  · obtain rfl := Host.Outcome.next.inj he
    exact .refl s

theorem execLineFault_acts {s t : State} (he : execLineFault s = .next t) :
    Acts (reach + 2) s t := by
  have faulty : Acts (reach + 2) s { s with fda := .low }.enterFaulted :=
    (Acts.control (s := s) { s with fda := .low } rfl).trans (State.enterFaulted_acts _)
  unfold execLineFault at he
  split at he <;> obtain rfl := Host.Outcome.next.inj he
  · exact faulty
  · exact faulty
  · exact faulty
  · exact faulty
  · exact .refl s

theorem execRecoveryWatchRestart_acts {s t : State} (he : execRecoveryWatchRestart s = .next t) :
    Acts (reach + 2) s t := by
  unfold execRecoveryWatchRestart at he
  split at he <;> obtain rfl := Host.Outcome.next.inj he
  · exact .line _ rfl
  · exact .refl s

theorem execRecoveryWatchExpiry_acts {s t : State} (he : execRecoveryWatchExpiry s = .next t) :
    Acts (reach + 2) s t := by
  unfold execRecoveryWatchExpiry at he
  split at he
  · split at he <;> obtain rfl := Host.Outcome.next.inj he
    · exact .line _ rfl
    · exact .refl s
  · obtain rfl := Host.Outcome.next.inj he
    exact .refl s

theorem execLineResetGuardEnd_acts {s t : State} {fda : Level} (he : execLineResetGuardEnd fda s = .next t) :
    Acts (reach + 2) s t := by
  unfold execLineResetGuardEnd at he
  split at he
  · dsimp only at he
    split at he <;> obtain rfl := Host.Outcome.next.inj he
    · exact (Acts.control (s := s) { s with fda := .low } rfl).trans (State.enterFaulted_acts _)
    · exact .line _ rfl
  · obtain rfl := Host.Outcome.next.inj he
    exact .refl s

theorem execLineResetDriveEnd_acts {s t : State} (he : execLineResetDriveEnd s = .next t) :
    Acts (reach + 2) s t := by
  unfold execLineResetDriveEnd at he
  split at he <;> obtain rfl := Host.Outcome.next.inj he
  · exact .line _ rfl
  · exact .refl s

theorem execLineResetHoldEnd_acts {s t : State} {fda : Level} (he : execLineResetHoldEnd fda s = .next t) :
    Acts (reach + 2) s t := by
  unfold execLineResetHoldEnd at he
  split at he
  · dsimp only at he
    split at he
    · obtain rfl := Host.Outcome.next.inj he
      exact (Acts.control (s := s) { s with fda := .low } rfl).trans (State.enterFaulted_acts _)
    · split at he <;> obtain rfl := Host.Outcome.next.inj he
      · exact .line _ rfl
      · exact (Acts.control (s := s) { s with fda := .high } rfl).trans (State.completeLineReset_acts _)
  · obtain rfl := Host.Outcome.next.inj he
    exact .refl s

/-- Every event is a run of acts. -/
theorem exec_acts_of_occurs {i : Instr} (hi : i.occurs = true) {s t : State} (he : exec i s = .next t) :
    Acts (reach + 2) s t := by
  cases i
  case trgSample => exact execTrgSample_acts he
  case timerExpiry => exact execTimerExpiry_acts he
  case chainTrigger => exact execChainTrigger_acts he
  case grant => exact execGrant_acts he
  case segmentGuardEnd => exact execSegmentGuardEnd_acts he
  case frameFullySent => exact execFrameFullySent_acts he
  case replyTimeout => exact execReplyTimeout_acts he
  case replyEnd => exact execReplyEnd_acts he
  case gapEnd => exact execGapEnd_acts he
  case retryExpiry => exact execRetryExpiry_acts he
  case probeTimerExpiry => exact execProbeTimerExpiry_acts he
  case leaseExpiry => exact execLeaseExpiry_acts he
  case lineFault => exact execLineFault_acts he
  case recoveryWatchRestart => exact execRecoveryWatchRestart_acts he
  case recoveryWatchExpiry => exact execRecoveryWatchExpiry_acts he
  case lineResetGuardEnd => exact execLineResetGuardEnd_acts he
  case lineResetDriveEnd => exact execLineResetDriveEnd_acts he
  case lineResetHoldEnd => exact execLineResetHoldEnd_acts he
  case replyStartMark => exact execReplyStartMark_acts he
  all_goals exact absurd hi (by simp [Instr.occurs])

/-! ### Every step -/

/-- What an invariant has to keep for every command to keep it. -/
structure KeptByCommands (P : State → Prop) : Prop extends KeptAtPorts P where
  event : ∀ i s t, i.occurs = true → exec i s = .next t → P s → P t
  powerOn : ∀ s t, execPowerOn s = .next t → P s → P t
  powerOnRelease : ∀ s t, execPowerOnRelease s = .next t → P s → P t
  portReset : ∀ h s, P s → P (s.resetPort h)
  portResetRelease : ∀ h s t, execPortResetRelease h s = .next t → P s → P t

theorem KeptByCommands.exec {P : State → Prop} (hP : KeptByCommands P) {i : Instr} {s t : State}
    (he : exec i s = .next t) (hs : P s) : P t := by
  cases hi : i.asked with
  | some ht => exact hP.exec_of_asked (h := ht.1) (tag := ht.2) hi he hs
  | none =>
    cases ho : i.occurs with
    | true => exact hP.event i s t ho he hs
    | false =>
      cases i
      case powerOn => exact hP.powerOn s t he hs
      case powerOnRelease => exact hP.powerOnRelease s t he hs
      case portReset h =>
        obtain rfl := Host.Outcome.next.inj he
        exact hP.portReset h s hs
      case portResetRelease h => exact hP.portResetRelease h s t he hs
      case frameStart => exact hP.frameStart he hs
      case statusByteClockedOut => exact hP.statusByteClockedOut he hs
      case frameEnd => exact hP.frameEnd he hs
      case responseExpiry => exact hP.responseExpiry he hs
      case poll => exact hP.poll he hs
      all_goals simp [Instr.asked, Instr.occurs] at hi ho

/-- A step runs a command, or a microsecond passes; the queue is no part of the invariants. -/
theorem KeptByCommands.step {P : State → Prop} (hP : KeptByCommands P) (htick : ∀ s, P s → P s.tick)
    (hpending : ∀ s q, P s → P { s with pending := q }) {s t : State} (hs : P s) (he : Machine.step s = .next t) : P t := by
  unfold Machine.step at he
  split at he
  · unfold State.idleStep at he
    split at he
    · obtain rfl := Host.Outcome.next.inj he
      exact hs
    · split at he
      next y rest _ => exact hP.exec (i := .chainTrigger y) he hs
      · split at he
        · exact hP.exec (i := .grant s.fda) he hs
        · obtain rfl := Host.Outcome.next.inj he
          exact htick s hs
  next c rest _ => exact hP.exec he (hpending s rest hs)

end Sys2Proof.Machine
end


section
/-! SUPPORT. The queue of commands, and the step pool: what the acts leave of them, the sums over the lanes, and the two
statements about them. -/

set_option Elab.async false

variable {reach : Nat}

namespace Sys2Proof.Machine

/-! ### Port reset over the acts -/

theorem State.emptyDirect_acts (s : State) (h : HostId) : Acts (reach + 2) s (s.emptyDirect h) := by
  have emptied : Acts (reach + 2) s (s.setDirectQueue h []) := (Act.queue h [] (Nat.zero_le _) (by simp)).acts
  unfold State.emptyDirect
  dsimp only
  split
  · exact emptied
  · split
    · split
      · split
        · exact emptied.trans (Acts.line _ rfl)
        · exact (emptied.trans (Act.drop (by omega)).acts).trans
            (State.settleToggle_acts _ _ _)
      · exact emptied.trans (State.settleToggle_acts _ _ _)
    · exact emptied.trans (State.settleToggle_acts _ _ _)

/-- The port in reset, and the lanes of its host without it: what of a port reset is no act of another block. -/
def State.closePort (s : State) (h : HostId) : State :=
  (s.releasePin h).setPort h ⟨.inReset, .low, (s.port h).frame.ignoredFrom, 0, .clear, none⟩

theorem State.releasePin_frame (s : State) (h k : HostId) : ((s.releasePin h).port k).frame = (s.port k).frame := by
  rw [State.releasePin_port]
  split <;> rfl

/-- A host leaves every subscriber set (R147). -/
def State.unsubscribeAll (s : State) (h : HostId) : State := eachLane (fun l u => u.unsubscribe h l) s

/-- A host gives up the lease, if it holds it (R153). -/
def State.yieldLease (s : State) (h : HostId) : State :=
  if s.lease = some h then { s with lease := none, leaseLeft := 0 } else s

theorem State.resetPort_eq (s : State) (h : HostId) :
    s.resetPort h
      = eachLane (fun l u => u.orphanIfOwned h l)
        (((((s.closePort h).setMailbox h .fresh).unsubscribeAll h).emptyDirect h).yieldLease h) := by
  unfold State.closePort
  rw [← State.releasePin_frame s h h]
  rfl

theorem State.yieldLease_acts (s : State) (h : HostId) : Acts reach s (s.yieldLease h) := by
  unfold State.yieldLease
  split
  · exact (Act.unlease (s := s)).acts.trans (Acts.control { s with lease := none, leaseLeft := 0 } rfl)
  · exact .refl s

/-- A lane whose owner is gone, before it is stopped (R41). -/
def State.disown (s : State) (h : HostId) (l : LaneId) : State :=
  (s.loseUsage h (s.lane l).program.length).setLane l { s.lane l with condition := .orphan }

theorem State.orphanIfOwned_acts (s : State) (h : HostId) (l : LaneId) (ho : (s.lane l).owner = some h) :
    Acts (reach + 1) (s.disown h l) (s.orphanIfOwned h l) := by
  unfold State.orphanIfOwned
  rw [if_pos ho]
  exact (State.stopLane_acts (s.disown h l) l).trans (State.queueAll_acts _ _)

theorem State.eachLane_keeps {P : State → Prop} {f : LaneId → State → State} (hf : ∀ l u, P u → P (f l u)) {s : State}
    (hs : P s) : P (eachLane f s) :=
  hf 7 _ (hf 6 _ (hf 5 _ (hf 4 _ (hf 3 _ (hf 2 _ (hf 1 _ (hf 0 _ hs)))))))

/-- A port reset keeps what the acts keep, if the acts of its own keep it. -/
theorem State.resetPort_keeps {P : State → Prop} {h : HostId} (hact : ∀ s t, Act 2 s t → P s → P t)
    (hclose : ∀ u : State, P u → P (u.closePort h)) (hmail : ∀ u : State, P u → P (u.setMailbox h .fresh))
    (hleave : ∀ (u : State) l, P u → P (u.unsubscribe h l))
    (hdisown : ∀ (u : State) l, (u.lane l).owner = some h → P u → P (u.disown h l)) {s : State} (hs : P s) :
    P (s.resetPort h) := by
  rw [State.resetPort_eq]
  refine State.eachLane_keeps (fun l u hu => ?_) (Acts.keeps hact (State.yieldLease_acts _ h)
    (Acts.keeps hact (State.emptyDirect_acts (reach := 0) _ h)
    (State.eachLane_keeps (fun l u hu => hleave u l hu) (hmail _ (hclose s hs)))))
  by_cases ho : (u.lane l).owner = some h
  · exact Acts.keeps hact (u.orphanIfOwned_acts h l ho) (hdisown u l ho hu)
  · unfold State.orphanIfOwned
    rwa [if_neg ho]

/-! ### The queue of commands -/

theorem State.takeBank_pending (s : State) (l : LaneId) : (s.takeBank l).pending = s.pending := by
  obtain ⟨b, -, -, -, e⟩ | ⟨-, e⟩ := s.takeBank_cases l <;> rw [e] <;> rfl

theorem State.releasePin_pending (s : State) (h : HostId) : (s.releasePin h).pending = s.pending := by
  obtain ⟨-, e⟩ | ⟨l, b, -, e⟩ := s.releasePin_cases h <;> rw [e]
  split
  · rw [State.takeBank_pending]; rfl
  · rfl

theorem Act.pending {s t : State} (h : Act reach s t) : t.pending = s.pending := by
  cases h with
  | takeBank l => exact s.takeBank_pending l
  | event j b => rw [State.queueEvent_eq]
  | control t ht => rw [ht]
  | line hn t ht => rw [ht]
  | _ => rfl

theorem Acts.pending {s t : State} (h : Acts reach s t) : t.pending = s.pending :=
  Acts.keeps (P := fun u => u.pending = s.pending) (fun _ _ huv hu => huv.pending.trans hu) h rfl

theorem PortAct.pending {s t : State} (h : PortAct s t) : t.pending = s.pending := by
  cases h with
  | leave => exact State.releasePin_pending _ _
  | _ => rfl

theorem Edit.pending {h : HostId} {s t : State} (he : Edit h s t) : t.pending = s.pending := by
  cases he with
  | arrive l => exact (s.arrive_acts (reach := 0) l).pending
  | stop l => exact (s.stopLane_acts (reach := 0) l).pending
  | lineReset fda => exact (State.beginLineReset_acts (reach := 0) { s with fda := fda }).pending
  | goOff => exact (s.goOff_acts (reach := 0)).pending
  | settings entries r => unfold State.writeSettings; dsimp only; split <;> rfl
  | _ => rfl

/-- Every command keeps the queue of the commands that wait. -/
theorem keptByCommands_pending (q : List Instr) : KeptByCommands fun s => s.pending = q where
  port _ _ h hs := h.pending.trans hs
  edit _ _ _ _ he hs := he.pending.trans hs
  hold h s k tag _ _ hs := by
    exact (PortActs.keeps (P := fun u => u.pending = q) (fun _ _ huv hu => huv.pending.trans hu)
      (s.discardUnread_acts h) hs :)
  event _ _ _ hi he hs := (exec_acts_of_occurs (reach := 0) hi he).pending.trans hs
  powerOn s t he hs := by
    obtain rfl := Host.Outcome.next.inj he
    exact hs
  powerOnRelease s t he hs := by
    unfold execPowerOnRelease at he
    split at he <;> obtain rfl := Host.Outcome.next.inj he
    · exact hs
    · exact hs
  portReset h s hs := by
    refine State.resetPort_keeps (P := fun u => u.pending = q) (fun _ _ huv hu => huv.pending.trans hu) ?_ ?_ ?_ ?_ hs
    · exact fun u hu => (u.releasePin_pending h).trans hu
    · exact fun u hu => hu
    · exact fun u l hu => hu
    · exact fun u l _ hu => hu
  portResetRelease h s t he hs := by
    simp only [execPortResetRelease] at he
    split at he <;> obtain rfl := Host.Outcome.next.inj he
    · exact hs
    · exact hs

/-- Every command answers: none of its arms is a refusal or a fault. -/
theorem exec_answers (i : Instr) (s : State) : ∃ t, exec i s = .next t := by
  cases hi : i.asked with
  | some ht =>
    obtain ⟨act, -, -, hx⟩ := exec_of_asked (h := ht.1) (tag := ht.2) hi
    exact ⟨_, hx s⟩
  | none =>
    cases i <;> simp only [Instr.asked, reduceCtorEq] at hi
    all_goals
      simp only [exec, execPowerOn, execPowerOnRelease, execPortReset, execPortResetRelease, execFrameStart,
        execStatusByteClockedOut, execFrameEnd, execResponseExpiry, execPoll, execTrgSample, execTimerExpiry,
        execChainTrigger, execGrant, execSegmentGuardEnd, execFrameFullySent, execReplyTimeout, execReplyEnd, execGapEnd,
        execProbeTimerExpiry, execLeaseExpiry, execLineFault, execRecoveryWatchRestart,
        execRecoveryWatchExpiry, execLineResetGuardEnd, execLineResetDriveEnd, execLineResetHoldEnd, execReplyStartMark]
    case retryExpiry who =>
      cases who <;> simp only [execRetryExpiry] <;> split <;> exact ⟨_, rfl⟩
    all_goals
      repeat' split
      all_goals exact ⟨_, rfl⟩

/-- Settles O3: every arm answers a next state, and every act leaves the queue. -/
theorem everyCommandAnswersANextState : Obligations.EveryCommandAnswersANextState := by
  intro s i
  obtain ⟨t, ht⟩ := exec_answers i s
  exact ⟨t, ht, (keptByCommands_pending s.pending).exec ht rfl⟩

/-! ### Who holds what -/

/-- Two states with the same lanes, programs, subscribers, usages, quotas and power. -/
structure SameHoldings (s t : State) : Prop where
  porLow : t.porLow = s.porLow
  freeCount : t.freeCount = s.freeCount
  usage : t.usage = s.usage
  settings : t.settings = s.settings
  condition : ∀ l, (t.lane l).condition = (s.lane l).condition
  program : ∀ l, (t.lane l).program = (s.lane l).program
  subscribers : ∀ l, (t.lane l).subscribers = (s.lane l).subscribers

theorem SameHoldings.refl (s : State) : SameHoldings s s :=
  ⟨rfl, rfl, rfl, rfl, fun _ => rfl, fun _ => rfl, fun _ => rfl⟩

theorem SameHoldings.trans {s t u : State} (h : SameHoldings s t) (g : SameHoldings t u) : SameHoldings s u where
  porLow := g.porLow.trans h.porLow
  freeCount := g.freeCount.trans h.freeCount
  usage := g.usage.trans h.usage
  settings := g.settings.trans h.settings
  condition l := (g.condition l).trans (h.condition l)
  program l := (g.program l).trans (h.program l)
  subscribers l := (g.subscribers l).trans (h.subscribers l)

/-- The change of a lane record that leaves who has it, its program and its subscribers. -/
theorem SameHoldings.setLane (s : State) (l : LaneId) {x : Lane} (hc : x.condition = (s.lane l).condition)
    (hp : x.program = (s.lane l).program) (hs : x.subscribers = (s.lane l).subscribers) :
    SameHoldings s (s.setLane l x) := by
  refine ⟨rfl, rfl, rfl, rfl, fun m => ?_, fun m => ?_, fun m => ?_⟩ <;>
    (by_cases e : l = m
     · subst e; simpa
     · simp [e])

theorem State.takeBank_holdings (s : State) (l : LaneId) : SameHoldings s (s.takeBank l) := by
  obtain ⟨b, -, -, -, e⟩ | ⟨-, e⟩ := s.takeBank_cases l <;> rw [e]
  · exact .trans (t := s.clearBank l b) ⟨rfl, rfl, rfl, rfl, fun _ => rfl, fun _ => rfl, fun _ => rfl⟩
      (.setLane _ l rfl rfl rfl)
  · exact .setLane s l rfl rfl rfl

theorem State.releasePin_holdings (s : State) (h : HostId) : SameHoldings s (s.releasePin h) := by
  obtain ⟨-, e⟩ | ⟨l, b, -, e⟩ := s.releasePin_cases h <;> rw [e]
  · exact .refl s
  · have unpinned : SameHoldings s (s.setPort h { s.port h with pin := none }) :=
      ⟨rfl, rfl, rfl, rfl, fun _ => rfl, fun _ => rfl, fun _ => rfl⟩
    split
    · exact unpinned.trans (State.takeBank_holdings _ l)
    · exact unpinned

theorem Act.holdings {s t : State} (h : Act reach s t) : SameHoldings s t := by
  cases h with
  | lane l x hx => exact .setLane s l hx.condition hx.program hx.subscribers
  | takeBank l => exact s.takeBank_holdings l
  | event j b =>
    rw [State.queueEvent_eq]
    exact ⟨rfl, rfl, rfl, rfl, fun _ => rfl, fun _ => rfl, fun _ => rfl⟩
  | control t ht =>
    rw [ht]
    exact ⟨rfl, rfl, rfl, rfl, fun _ => rfl, fun _ => rfl, fun _ => rfl⟩
  | line hn t ht =>
    rw [ht]
    exact ⟨rfl, rfl, rfl, rfl, fun _ => rfl, fun _ => rfl, fun _ => rfl⟩
  | _ => exact ⟨rfl, rfl, rfl, rfl, fun _ => rfl, fun _ => rfl, fun _ => rfl⟩

theorem Acts.holdings {s t : State} (h : Acts reach s t) : SameHoldings s t :=
  Acts.keeps (fun _ _ huv hu => SameHoldings.trans hu huv.holdings) h (.refl s)

theorem PortAct.holdings {s t : State} (h : PortAct s t) : SameHoldings s t := by
  cases h with
  | leave h r frame sticky hr =>
    exact .trans (t := s.setPort h _) ⟨rfl, rfl, rfl, rfl, fun _ => rfl, fun _ => rfl, fun _ => rfl⟩
      (State.releasePin_holdings _ h)
  | _ => exact ⟨rfl, rfl, rfl, rfl, fun _ => rfl, fun _ => rfl, fun _ => rfl⟩

theorem PortActs.holdings {s t : State} (h : PortActs s t) : SameHoldings s t :=
  PortActs.keeps (fun _ _ huv hu => SameHoldings.trans hu huv.holdings) h (.refl s)

theorem State.hold_holdings (s : State) (h : HostId) (tag : Byte) (k : HeldKind) : SameHoldings s (s.hold h tag k) :=
  (s.discardUnread_acts h).holdings.trans ⟨rfl, rfl, rfl, rfl, fun _ => rfl, fun _ => rfl, fun _ => rfl⟩

theorem State.closePort_holdings (s : State) (h : HostId) : SameHoldings s (s.closePort h) :=
  (s.releasePin_holdings h).trans ⟨rfl, rfl, rfl, rfl, fun _ => rfl, fun _ => rfl, fun _ => rfl⟩

/-! ### Sums over the lanes -/

/-- The steps a lane counts for a host. -/
def Lane.ownedBy (x : Lane) (h : HostId) : Nat := if x.owner = some h then x.program.length else 0

theorem sum_allLanes (f : LaneId → Nat) : (allLanes.map f).sum = ∑ l, f l := by
  simp [allLanes, Fin.sum_univ_eight, add_assoc]

/-- A sum over the lanes after a change at one of them. -/
theorem sum_allLanes_change {f g : LaneId → Nat} (l : LaneId) (h : ∀ m, l ≠ m → g m = f m) :
    (allLanes.map g).sum + f l = (allLanes.map f).sum + g l := by
  have rest : ∑ m ∈ Finset.univ.erase l, g m = ∑ m ∈ Finset.univ.erase l, f m :=
    Finset.sum_congr rfl fun m hm => h m (Finset.ne_of_mem_erase hm).symm
  rw [sum_allLanes, sum_allLanes, ← Finset.add_sum_erase _ g (Finset.mem_univ l),
    ← Finset.add_sum_erase _ f (Finset.mem_univ l), rest]
  omega

theorem State.placed_setLane (s : State) (l : LaneId) (x : Lane) :
    (s.setLane l x).placed + (s.lane l).program.length = s.placed + x.program.length := by
  have h := sum_allLanes_change (f := fun m => (s.lane m).program.length)
    (g := fun m => ((s.setLane l x).lane m).program.length) l fun m e => by simp [e]
  simpa [State.placed] using h

theorem State.ownedSteps_setLane (s : State) (l : LaneId) (x : Lane) (h : HostId) :
    (s.setLane l x).ownedSteps h + (s.lane l).ownedBy h = s.ownedSteps h + x.ownedBy h := by
  have e := sum_allLanes_change (f := fun m => (s.lane m).ownedBy h)
    (g := fun m => ((s.setLane l x).lane m).ownedBy h) l fun m e => by simp [e]
  simpa [State.ownedSteps, Lane.ownedBy] using e

/-- A lane's own steps are part of its owner's sum. -/
theorem State.length_le_ownedSteps (s : State) (l : LaneId) {h : HostId} (ho : (s.lane l).owner = some h) :
    (s.lane l).program.length ≤ s.ownedSteps h := by
  have e := s.ownedSteps_setLane l { s.lane l with program := [] } h
  have hl : (s.lane l).ownedBy h = (s.lane l).program.length := by simp [Lane.ownedBy, ho]
  have hx : ({ s.lane l with program := [] } : Lane).ownedBy h = 0 := by simp [Lane.ownedBy]
  omega

theorem SameHoldings.owner {s t : State} (h : SameHoldings s t) (l : LaneId) :
    (t.lane l).owner = (s.lane l).owner := by
  unfold Lane.owner
  rw [h.condition l]

theorem SameHoldings.placed {s t : State} (h : SameHoldings s t) : t.placed = s.placed := by
  unfold State.placed
  simp only [h.program]

theorem SameHoldings.ownedSteps {s t : State} (h : SameHoldings s t) (k : HostId) :
    t.ownedSteps k = s.ownedSteps k := by
  unfold State.ownedSteps
  simp only [h.program, h.owner]

theorem SameHoldings.poolOk {s t : State} (h : SameHoldings s t) (hs : s.PoolOk) : t.PoolOk := by
  obtain ⟨hfree, husage, hlane⟩ := hs
  have hu (k : HostId) : t.usageOf k = s.usageOf k := congrArg (look · k) h.usage
  have hq (k : HostId) : t.quotaOf k = s.quotaOf k := congrArg (fun r : Settings => look r.quota k) h.settings
  refine ⟨?_, fun k => ?_, fun l => ?_⟩
  · rw [h.freeCount, h.placed]
    exact hfree
  · rw [hu, hq, h.ownedSteps]
    exact husage k
  · rw [h.condition, h.program]
    exact hlane l


/-! ### The pool after each command -/

/-- The pool's accounts after a change of one lane, of the free count and of usages. -/
theorem State.PoolOk.change {s t : State} (hs : s.PoolOk) (l : LaneId) (x : Lane) (ht : t.lanes = (s.setLane l x).lanes)
    (hfree : t.freeCount + x.program.length = s.freeCount + (s.lane l).program.length)
    (husage : ∀ k, t.usageOf k + (s.lane l).ownedBy k = s.usageOf k + x.ownedBy k ∧ t.usageOf k ≤ t.quotaOf k)
    (hx : (x.condition = .free → x.program = []) ∧ x.program.length ≤ Config.programMax) : t.PoolOk := by
  obtain ⟨htotal, hshare, hlane⟩ := hs
  have hl : t.lane = (s.setLane l x).lane := by
    funext m
    exact congrArg (look · m) ht
  have hplaced : t.placed = (s.setLane l x).placed := by unfold State.placed; rw [hl]
  have howned (k : HostId) : t.ownedSteps k = (s.setLane l x).ownedSteps k := by unfold State.ownedSteps; rw [hl]
  refine ⟨?_, fun k => ⟨?_, (husage k).2⟩, fun m => ?_⟩
  · have := s.placed_setLane l x
    omega
  · have := s.ownedSteps_setLane l x k
    have := (hshare k).1
    have := (husage k).1
    have := howned k
    omega
  · rw [hl]
    by_cases e : l = m
    · subst e
      simpa using hx
    · simpa [e] using hlane m

theorem Lane.ownedBy_of_owner {x : Lane} {h : HostId} (ho : x.owner = some h) (k : HostId) :
    x.ownedBy k = if h = k then x.program.length else 0 := by
  simp [Lane.ownedBy, ho]

theorem Lane.ownedBy_of_no_owner {x : Lane} (ho : x.owner = none) (k : HostId) : x.ownedBy k = 0 := by
  simp [Lane.ownedBy, ho]

theorem Lane.ownedBy_of_empty {x : Lane} (hp : x.program = []) (k : HostId) : x.ownedBy k = 0 := by
  simp [Lane.ownedBy, hp]

theorem Lane.owner_of_free {x : Lane} (hc : x.condition = .free) : x.owner = none := by simp [Lane.owner, hc]

theorem Lane.owner_of_orphan {x : Lane} (hc : x.condition = .orphan) : x.owner = none := by simp [Lane.owner, hc]

theorem Lane.owner_of_owned {x : Lane} {h : HostId} (hc : x.condition = .owned h) : x.owner = some h := by
  simp [Lane.owner, hc]

theorem Lane.condition_of_owner {x : Lane} {h : HostId} (ho : x.owner = some h) : x.condition = .owned h := by
  unfold Lane.owner at ho
  cases hc : x.condition <;> simp_all

theorem Lane.not_free_of_owner {x : Lane} {h : HostId} (ho : x.owner = some h) : x.condition ≠ .free := fun hc => by
  simp [Lane.owner_of_free hc] at ho

@[simp] theorem State.usageOf_placeSteps (s : State) (h k : HostId) (n : Nat) :
    (s.placeSteps h n).usageOf k = if h = k then s.usageOf k + n else s.usageOf k := by
  by_cases e : h = k
  · subst e; simp [State.placeSteps, State.usageOf]
  · simp [State.placeSteps, State.usageOf, e]

@[simp] theorem State.usageOf_freeSteps (s : State) (h k : HostId) (n : Nat) :
    (s.freeSteps h n).usageOf k = if h = k then s.usageOf k - n else s.usageOf k := by
  by_cases e : h = k
  · subst e; simp [State.freeSteps, State.usageOf]
  · simp [State.freeSteps, State.usageOf, e]

@[simp] theorem State.usageOf_gainUsage (s : State) (h k : HostId) (n : Nat) :
    (s.gainUsage h n).usageOf k = if h = k then s.usageOf k + n else s.usageOf k := by
  by_cases e : h = k
  · subst e; simp [State.gainUsage, State.usageOf]
  · simp [State.gainUsage, State.usageOf, e]

@[simp] theorem State.usageOf_loseUsage (s : State) (h k : HostId) (n : Nat) :
    (s.loseUsage h n).usageOf k = if h = k then s.usageOf k - n else s.usageOf k := by
  by_cases e : h = k
  · subst e; simp [State.loseUsage, State.usageOf]
  · simp [State.loseUsage, State.usageOf, e]

/-- A settings entry leaves every quota but the one it names, and sets that one to its value (R154). -/
theorem RawSetting.apply_quota {r r' : Settings} {e : RawSetting} (ha : RawSetting.apply r e = some r') (k : HostId)
    (u : Table 4 Nat) (hb : RawSetting.belowUsage u e = false) (hu : look u k ≤ look r.quota k) :
    look u k ≤ look r'.quota k := by
  cases e with
  | lineRate v =>
    simp only [RawSetting.apply] at ha
    split at ha <;> simp only [reduceCtorEq, Option.some.injEq] at ha <;> subst ha <;> exact hu
  | quota h v =>
    simp only [RawSetting.apply] at ha
    split at ha <;> simp only [reduceCtorEq, Option.some.injEq] at ha
    subst ha
    rw [look_put]
    split
    next hk =>
      subst hk
      simpa [RawSetting.belowUsage] using hb
    · exact hu
  | _ =>
    simp only [RawSetting.apply] at ha
    split at ha <;> simp only [reduceCtorEq, Option.some.injEq] at ha
    subst ha
    exact hu

theorem applySettings_quota (u : Table 4 Nat) (k : HostId) (entries : List RawSetting) :
    ∀ {r r' : Settings}, applySettings r entries = some r' → entries.any (RawSetting.belowUsage u) = false →
      look u k ≤ look r.quota k → look u k ≤ look r'.quota k := by
  induction entries with
  | nil =>
    intro r r' ha _ hu
    obtain rfl := Option.some.inj ha
    exact hu
  | cons e rest ih =>
    intro r r' ha hb hu
    rw [applySettings] at ha
    simp only [List.any_cons, Bool.or_eq_false_iff] at hb
    split at ha
    next r₁ hr => exact ih ha hb.2 (RawSetting.apply_quota hr k u hb.1 hu)
    · simp at ha

/-- A SETTINGS_WRITE that names no quota below a usage leaves every quota above its usage (R155). -/
theorem newSettings_quota {r r' : Settings} {entries : List RawSetting} {u : Table 4 Nat}
    (hn : newSettings r entries = some r') (hb : entries.any (RawSetting.belowUsage u) = false) (k : HostId)
    (hu : look u k ≤ look r.quota k) : look u k ≤ look r'.quota k := by
  unfold newSettings at hn
  split at hn
  · exact applySettings_quota u k entries hn hb hu
  · simp at hn

/-- Every accepted request keeps the pool's accounts (R3, R5). -/
theorem Edit.poolOk {h : HostId} {s t : State} (he : Edit h s t) (hs : s.PoolOk) : t.PoolOk := by
  obtain ⟨htotal, hshare, hlane⟩ := id hs
  have own (l : LaneId) (ho : (s.lane l).owner = some h) : (s.lane l).program.length ≤ s.usageOf h := by
    have := s.length_le_ownedSteps l ho
    have := (hshare h).1
    omega
  cases he with
  | claim l hc =>
    refine hs.change l _ rfl ?_ (fun k => ⟨?_, (hshare k).2⟩) ⟨by simp, by simp [Lane.fresh]⟩
    · simp [Lane.fresh, (hlane l).1 hc]
    · rw [Lane.ownedBy_of_no_owner (Lane.owner_of_free hc), Lane.ownedBy_of_empty rfl]
      rfl
  | release l ho hr =>
    have hown := own l ho
    refine hs.change l .fresh rfl ?_ (fun k => ⟨?_, ?_⟩) ⟨fun _ => rfl, by simp [Lane.fresh]⟩
    · simp [Lane.fresh, State.freeSteps]
    · rw [Lane.ownedBy_of_owner ho, Lane.ownedBy_of_no_owner rfl]
      simp only [State.usageOf_setLane, State.usageOf_freeSteps]
      split
      next e => subst e; omega
      · omega
    · have := (hshare k).2
      simp only [State.usageOf_setLane, State.usageOf_freeSteps, State.quotaOf_setLane, State.quotaOf_freeSteps]
      split <;> omega
  | move l j ho hr hj hi hq =>
    have hown := own l ho
    refine hs.change l { s.lane l with condition := .owned j } rfl ?_ (fun k => ⟨?_, ?_⟩) ⟨by simp, (hlane l).2⟩
    · rfl
    · rw [Lane.ownedBy_of_owner ho, Lane.ownedBy_of_owner (Lane.owner_of_owned rfl)]
      simp only [State.moveLane, State.usageOf_setLane, State.usageOf_gainUsage, State.usageOf_loseUsage]
      by_cases hk : h = k
      · subst hk
        simp [hj]
        omega
      · by_cases hjk : j = k
        · simp [hk, hjk]
        · simp [hk, hjk]
    · have := (hshare k).2
      simp only [State.moveLane, State.usageOf_setLane, State.usageOf_gainUsage, State.usageOf_loseUsage,
        State.quotaOf_setLane, State.quotaOf_gainUsage, State.quotaOf_loseUsage]
      by_cases hjk : j = k
      · subst hjk
        simpa [hj.symm] using hq
      · simp only [hjk, if_false]
        split <;> omega
  | adopt l hc hr hq =>
    refine hs.change l { s.lane l with condition := .owned h } rfl ?_ (fun k => ⟨?_, ?_⟩) ⟨by simp, (hlane l).2⟩
    · rfl
    · rw [Lane.ownedBy_of_no_owner (Lane.owner_of_orphan hc), Lane.ownedBy_of_owner (Lane.owner_of_owned rfl)]
      simp only [State.usageOf_setLane, State.usageOf_gainUsage]
      split <;> omega
    · have := (hshare k).2
      simp only [State.usageOf_setLane, State.usageOf_gainUsage, State.quotaOf_setLane, State.quotaOf_gainUsage]
      split
      next e => subst e; exact hq
      · exact this
  | place l n program ho he hp hm hq hf =>
    refine hs.change l { s.lane l with program := program } rfl ?_ (fun k => ⟨?_, ?_⟩) ⟨?_, hm⟩
    · simp only [State.setProgram, State.setLane_freeCount, State.placeSteps]
      omega
    · rw [Lane.ownedBy_of_owner ho, Lane.ownedBy_of_owner (x := { s.lane l with program := program }) ho]
      simp only [State.setProgram, State.usageOf_setLane, State.usageOf_placeSteps]
      split <;> omega
    · have := (hshare k).2
      simp only [State.setProgram, State.usageOf_setLane, State.usageOf_placeSteps, State.quotaOf_setLane,
        State.quotaOf_placeSteps]
      split
      next e => subst e; exact hq
      · exact this
    · exact fun hc => absurd hc (Lane.not_free_of_owner ho)
  | free l n program ho he hp =>
    have hown := own l ho
    refine hs.change l { s.lane l with program := program } rfl ?_ (fun k => ⟨?_, ?_⟩) ⟨?_, ?_⟩
    · simp only [State.setProgram, State.setLane_freeCount, State.freeSteps]
      omega
    · rw [Lane.ownedBy_of_owner ho, Lane.ownedBy_of_owner (x := { s.lane l with program := program }) ho]
      simp only [State.setProgram, State.usageOf_setLane, State.usageOf_freeSteps]
      split
      next e => subst e; omega
      · omega
    · have := (hshare k).2
      simp only [State.setProgram, State.usageOf_setLane, State.usageOf_freeSteps, State.quotaOf_setLane,
        State.quotaOf_freeSteps]
      split <;> omega
    · exact fun hc => absurd hc (Lane.not_free_of_owner ho)
    · have := (hlane l).2
      dsimp only
      omega
  | replace l p st ho he =>
    refine hs.change l { s.lane l with program := (s.lane l).program.set p st } rfl (by simp [State.setProgram])
      (fun k => ⟨?_, (hshare k).2⟩) ⟨?_, ?_⟩
    · rw [Lane.ownedBy_of_owner ho, Lane.ownedBy_of_owner (x := { s.lane l with program := (s.lane l).program.set p st }) ho]
      simp [State.setProgram]
    · exact fun hc => absurd hc (Lane.not_free_of_owner ho)
    · simpa using (hlane l).2
  | patch l p old st data ho hp hd =>
    refine hs.change l { s.lane l with program := (s.lane l).program.set p st } rfl (by simp [State.setProgram])
      (fun k => ⟨?_, (hshare k).2⟩) ⟨?_, ?_⟩
    · rw [Lane.ownedBy_of_owner ho, Lane.ownedBy_of_owner (x := { s.lane l with program := (s.lane l).program.set p st }) ho]
      simp [State.setProgram]
    · exact fun hc => absurd hc (Lane.not_free_of_owner ho)
    · simpa using (hlane l).2
  | subscribe l member hc =>
    exact hs.change l _ rfl rfl (fun k => ⟨rfl, (hshare k).2⟩) (hlane l)
  | settings entries r hn hu =>
    have hfields : (s.writeSettings entries r).usage = s.usage ∧ (s.writeSettings entries r).freeCount = s.freeCount
        ∧ (s.writeSettings entries r).lanes = s.lanes ∧ (s.writeSettings entries r).settings = r := by
      unfold State.writeSettings
      dsimp only
      split <;> exact ⟨rfl, rfl, rfl, rfl⟩
    obtain ⟨husage, hfree, hlanes, hsettings⟩ := hfields
    refine hs.change 0 (s.lane 0) (by rw [hlanes]; simp) (by rw [hfree]) (fun k => ?_) (hlane 0)
    have hq : (s.writeSettings entries r).quotaOf k = look r.quota k := by rw [State.quotaOf, hsettings]
    have hk : (s.writeSettings entries r).usageOf k = s.usageOf k := by rw [State.usageOf, husage]; rfl
    rw [hq, hk]
    exact ⟨rfl, newSettings_quota hn hu k (hshare k).2⟩
  | arrive l => exact (s.arrive_acts (reach := 0) l).holdings.poolOk hs
  | stop l => exact (s.stopLane_acts (reach := 0) l).holdings.poolOk hs
  | lineReset fda => exact SameHoldings.poolOk (State.beginLineReset_acts (reach := 0) { s with fda := fda }).holdings hs
  | goOff => exact (s.goOff_acts (reach := 0)).holdings.poolOk hs
  | same => exact hs
  | mask => exact hs
  | submit => exact hs
  | takeLease => exact hs
  | renewLease => exact hs
  | dropLease => exact hs
  | timer => exact hs
  | waitOff => exact hs
  | config l => refine SameHoldings.poolOk (SameHoldings.setLane s l ?_ ?_ ?_) hs <;> rfl
  | arm l => refine SameHoldings.poolOk (SameHoldings.setLane s l ?_ ?_ ?_) hs <;> rfl
  | disarm l => refine SameHoldings.poolOk (SameHoldings.setLane s l ?_ ?_ ?_) hs <;> rfl
  | disarmLater l => refine SameHoldings.poolOk (SameHoldings.setLane s l ?_ ?_ ?_) hs <;> rfl
  | clearOverrun l => refine SameHoldings.poolOk (SameHoldings.setLane s l ?_ ?_ ?_) hs <;> rfl

/-- A lane whose owner is gone no longer counts for it (R41). -/
theorem State.disown_poolOk {s : State} {h : HostId} {l : LaneId} (ho : (s.lane l).owner = some h) (hs : s.PoolOk) :
    (s.disown h l).PoolOk := by
  obtain ⟨-, hshare, hlane⟩ := id hs
  have hown : (s.lane l).program.length ≤ s.usageOf h := by
    have := s.length_le_ownedSteps l ho
    have := (hshare h).1
    omega
  refine hs.change l { s.lane l with condition := .orphan } rfl rfl (fun k => ⟨?_, ?_⟩) ⟨by simp, (hlane l).2⟩
  · rw [Lane.ownedBy_of_owner ho, Lane.ownedBy_of_no_owner (Lane.owner_of_orphan rfl)]
    simp only [State.disown, State.usageOf_setLane, State.usageOf_loseUsage]
    split
    next e => subst e; omega
    · omega
  · have := (hshare k).2
    simp only [State.disown, State.usageOf_setLane, State.usageOf_loseUsage, State.quotaOf_setLane,
      State.quotaOf_loseUsage]
    split <;> omega

theorem State.reset_poolOk : State.reset.PoolOk := by decide

theorem keptByCommands_poolOk : KeptByCommands State.PoolOk where
  port _ _ h hs := h.holdings.poolOk hs
  edit _ _ _ _ he hs := he.poolOk hs
  hold h s k tag _ _ hs := (s.hold_holdings h tag k).poolOk hs
  event _ _ _ hi he hs := (exec_acts_of_occurs (reach := 0) hi he).holdings.poolOk hs
  powerOn s t he hs := by
    obtain rfl := Host.Outcome.next.inj he
    exact State.reset_poolOk
  powerOnRelease s t he hs := by
    unfold execPowerOnRelease at he
    split at he <;> obtain rfl := Host.Outcome.next.inj he
    · exact hs
    · exact hs
  portReset h s hs := by
    refine State.resetPort_keeps (fun _ _ huv hu => huv.holdings.poolOk hu) ?_ ?_ ?_ ?_ hs
    · exact fun u hu => (u.closePort_holdings h).poolOk hu
    · exact fun u hu => hu
    · exact fun u l hu => hu.change l _ rfl rfl (fun k => ⟨rfl, (hu.2.1 k).2⟩) (hu.2.2 l)
    · exact fun u l ho hu => State.disown_poolOk ho hu
  portResetRelease h s t he hs := by
    simp only [execPortResetRelease] at he
    split at he <;> obtain rfl := Host.Outcome.next.inj he
    · exact hs
    · exact hs

theorem State.lane_tick (s : State) (l : LaneId) :
    s.tick.lane l = { s.lane l with retryLeft := ticked (s.lane l).retryLeft } := by
  simp [State.lane, State.tick]

/-- Settles O5: every act keeps the holdings, every accepted request keeps the accounts, and so do resets. -/
theorem everyStepKeepsThePool : Obligations.EveryStepKeepsThePool := by
  intro s t hs he
  refine keptByCommands_poolOk.step (fun u hu => ?_) (fun u q hu => hu) hs he
  refine SameHoldings.poolOk (s := u) ⟨rfl, rfl, rfl, rfl, fun l => ?_, fun l => ?_, fun l => ?_⟩ hu <;>
    rw [State.lane_tick]

end Sys2Proof.Machine
end


section
/-! SUPPORT. The banks and their pins, the ports in reset, and the counts: what every act, every accepted request and every
reset keeps of them, and the three statements about them. -/

set_option Elab.async false

variable {reach : Nat}

namespace Sys2Proof.Machine

/-! ### What a bank choice and a released pin leave -/

theorem State.takeBank_eq (s : State) (l : LaneId) :
    s.takeBank l = { s with lanes := (s.takeBank l).lanes, banks := (s.takeBank l).banks } := by
  obtain ⟨b, -, -, -, e⟩ | ⟨-, e⟩ := s.takeBank_cases l <;> rw [e] <;> rfl

/-- A bank choice changes the run state, the write bank and the waiting mark of its lane, and of no other. -/
theorem State.takeBank_lane (s : State) (l m : LaneId) :
    (s.takeBank l).lane m
      = { s.lane m with
          run := ((s.takeBank l).lane m).run
          write := ((s.takeBank l).lane m).write
          waiting := ((s.takeBank l).lane m).waiting } := by
  obtain ⟨b, -, -, -, e⟩ | ⟨-, e⟩ := s.takeBank_cases l <;> rw [e] <;>
    (by_cases hl : l = m
     · subst hl; simp
     · simp [hl, State.clearBank])

theorem State.releasePin_eq (s : State) (h : HostId) :
    s.releasePin h = { s with
      ports := (s.releasePin h).ports, lanes := (s.releasePin h).lanes, banks := (s.releasePin h).banks } := by
  obtain ⟨-, e⟩ | ⟨l, b, -, e⟩ := s.releasePin_cases h <;> rw [e]
  split
  · rw [State.takeBank_eq]; rfl
  · rfl

theorem State.releasePin_lane (s : State) (h : HostId) (m : LaneId) :
    (s.releasePin h).lane m
      = { s.lane m with
          run := ((s.releasePin h).lane m).run
          write := ((s.releasePin h).lane m).write
          waiting := ((s.releasePin h).lane m).waiting } := by
  obtain ⟨-, e⟩ | ⟨l, b, -, e⟩ := s.releasePin_cases h <;> rw [e]
  split
  · exact State.takeBank_lane _ l m
  · rfl

/-! ### Counts -/

/-- A record queued keeps the queue and the lost count within their ends (R139). -/
theorem Mailbox.record_within {m : Mailbox} (e : Event)
    (hm : m.queue.length ≤ Config.queueMax ∧ m.lost ≤ Config.countMax) :
    (m.record e).queue.length ≤ Config.queueMax ∧ (m.record e).lost ≤ Config.countMax := by
  obtain ⟨-, h⟩ | ⟨-, -, h⟩ | ⟨-, hq, h⟩ := m.record_cases e <;> rw [h]
  · exact hm
  · exact ⟨hm.1, satSucc_le _ hm.2⟩
  · exact ⟨by simp; omega, hm.2⟩

theorem Act.countsOk {s t : State} (h : Act reach s t) (hs : s.CountsOk) : t.CountsOk := by
  obtain ⟨hhost, hlane, hstation⟩ := hs
  cases h with
  | lane l x hx =>
    refine ⟨hhost, fun m => ?_, hstation⟩
    by_cases e : l = m
    · subst e
      have := hlane l
      have := satSucc_le _ (hlane l)
      rw [State.lane_setLane_self]
      obtain ho | ho := hx.overrun <;> omega
    · simpa [e] using hlane m
  | takeBank l =>
    refine ⟨?_, fun m => ?_, ?_⟩
    · rw [State.takeBank_eq]; exact hhost
    · rw [State.takeBank_lane]; exact hlane m
    · rw [State.takeBank_eq]; exact hstation
  | event h b =>
    refine ⟨fun k => ?_, ?_, ?_⟩
    · obtain ⟨hq, hlost, hd⟩ := hhost k
      have hin : ((s.queueEvent h b).mailbox k).queue.length ≤ Config.queueMax
          ∧ ((s.queueEvent h b).mailbox k).lost ≤ Config.countMax := by
        rw [State.queueEvent_mailbox]
        split
        · exact Mailbox.record_within _ ⟨hq, hlost⟩
        · exact ⟨hq, hlost⟩
      refine ⟨hin.1, hin.2, ?_⟩
      rw [State.queueEvent_eq]
      exact hd
    · rw [State.queueEvent_eq]; exact hlane
    · rw [State.queueEvent_eq]; exact hstation
  | station g n x hx =>
    refine ⟨hhost, hlane, fun i j => ?_⟩
    by_cases e : g = i ∧ n = j
    · obtain ⟨rfl, rfl⟩ := e
      have := hstation g n
      rw [State.station_setStation_self]
      omega
    · rw [State.station_setStation_ne _ _ (by tauto)]
      exact hstation i j
  | stations => exact ⟨hhost, hlane, fun i j => by simp [State.station, freshStations, Station.fresh]⟩
  | queue h q hq hst =>
    refine ⟨fun k => ?_, hlane, hstation⟩
    obtain ⟨hm, hlost, hd⟩ := hhost k
    refine ⟨hm, hlost, ?_⟩
    by_cases e : h = k
    · subst e
      simpa using hq.trans hd
    · simpa [e] using hd
  | control t ht =>
    rw [ht]
    exact ⟨hhost, hlane, hstation⟩
  | line hn t ht =>
    rw [ht]
    exact ⟨hhost, hlane, hstation⟩
  | bank => exact ⟨hhost, hlane, hstation⟩
  | released => exact ⟨hhost, hlane, hstation⟩
  | unlease => exact ⟨hhost, hlane, hstation⟩
  | drop => exact ⟨hhost, hlane, hstation⟩
  | take => exact ⟨hhost, hlane, hstation⟩

theorem Acts.countsOk {s t : State} (h : Acts reach s t) (hs : s.CountsOk) : t.CountsOk :=
  Acts.keeps (fun _ _ huv hu => huv.countsOk hu) h hs

theorem State.releasePin_countsOk {s : State} (h : HostId) (hs : s.CountsOk) : (s.releasePin h).CountsOk := by
  obtain ⟨hhost, hlane, hstation⟩ := hs
  refine ⟨?_, fun m => ?_, ?_⟩
  · rw [State.releasePin_eq]; exact hhost
  · rw [State.releasePin_lane]; exact hlane m
  · rw [State.releasePin_eq]; exact hstation

theorem PortAct.countsOk {s t : State} (h : PortAct s t) (hs : s.CountsOk) : t.CountsOk := by
  cases h with
  | leave h => exact State.releasePin_countsOk h hs
  | fetched h count lost hi =>
    obtain ⟨hhost, hlane, hstation⟩ := hs
    refine ⟨fun k => ?_, hlane, hstation⟩
    obtain ⟨hm, hlost, hd⟩ := hhost k
    by_cases e : h = k
    · subst e
      refine ⟨?_, ?_, hd⟩
      · simp; omega
      · simp; omega
    · simpa [e] using ⟨hm, hlost, hd⟩
  | _ => exact hs

/-- A change of one lane that does not raise its overrun count above its end. -/
theorem State.CountsOk.setLane {s : State} (hs : s.CountsOk) (l : LaneId) {x : Lane} (hx : x.overrun ≤ Config.countMax) :
    (s.setLane l x).CountsOk := by
  obtain ⟨hhost, hlane, hstation⟩ := hs
  refine ⟨hhost, fun m => ?_, hstation⟩
  by_cases e : l = m
  · subst e
    simpa using hx
  · simpa [e] using hlane m

theorem Edit.countsOk {h : HostId} {s t : State} (he : Edit h s t) (hs : s.CountsOk) : t.CountsOk := by
  have keep (l : LaneId) : (s.lane l).overrun ≤ Config.countMax := hs.2.1 l
  cases he with
  | claim l => exact hs.setLane l (Nat.zero_le _)
  | release l => exact State.CountsOk.setLane (s := s.freeSteps h _) hs l (Nat.zero_le _)
  | move l j => exact State.CountsOk.setLane (s := (s.loseUsage h _).gainUsage j _) hs l (keep l)
  | adopt l => exact State.CountsOk.setLane (s := s.gainUsage h _) hs l (keep l)
  | place l n => exact State.CountsOk.setLane (s := s.placeSteps h n) hs l (keep l)
  | free l n => exact State.CountsOk.setLane (s := s.freeSteps h n) hs l (keep l)
  | config l => exact hs.setLane l (keep l)
  | arm l => exact hs.setLane l (keep l)
  | disarm l => exact hs.setLane l (keep l)
  | disarmLater l => exact hs.setLane l (keep l)
  | clearOverrun l => exact hs.setLane l (Nat.zero_le _)
  | replace l => exact hs.setLane l (keep l)
  | patch l => exact hs.setLane l (keep l)
  | subscribe l => exact hs.setLane l (keep l)
  | mask m enable =>
    obtain ⟨hhost, hlane, hstation⟩ := hs
    refine ⟨fun k => ?_, hlane, hstation⟩
    by_cases e : h = k
    · subst e
      simpa using hhost h
    · simpa [e] using hhost k
  | submit raw st limit interval tag hst hl hq =>
    obtain ⟨hhost, hlane, hstation⟩ := hs
    refine ⟨fun k => ?_, hlane, hstation⟩
    obtain ⟨hm, hlost, hd⟩ := hhost k
    refine ⟨hm, hlost, ?_⟩
    by_cases e : h = k
    · subst e
      simp
      omega
    · simpa [e] using hd
  | settings entries r =>
    unfold State.writeSettings
    dsimp only
    split
    · exact hs
    · exact hs
  | arrive l => exact (s.arrive_acts (reach := 0) l).countsOk hs
  | stop l => exact (s.stopLane_acts (reach := 0) l).countsOk hs
  | lineReset fda => exact Acts.countsOk (State.beginLineReset_acts (reach := 0) { s with fda := fda }) hs
  | goOff => exact (s.goOff_acts (reach := 0)).countsOk hs
  | same => exact hs
  | takeLease => exact hs
  | renewLease => exact hs
  | dropLease => exact hs
  | timer => exact hs
  | waitOff => exact hs

theorem State.reset_countsOk : State.reset.CountsOk := by
  refine ⟨fun h => ?_, fun l => ?_, fun g n => ?_⟩
  · simp [State.mailbox, State.directQueue, State.reset, Mailbox.fresh]
  · simp [State.lane, State.reset, Lane.fresh]
  · simp [State.station, State.reset, freshStations, Station.fresh]

theorem keptByCommands_countsOk : KeptByCommands State.CountsOk where
  port _ _ h hs := h.countsOk hs
  edit _ _ _ _ he hs := he.countsOk hs
  hold h s k tag _ _ hs :=
    have ended : (s.discardUnread h).CountsOk := PortActs.keeps (fun _ _ huv hu => huv.countsOk hu) (s.discardUnread_acts h) hs
    ended
  event _ _ _ hi he hs := (exec_acts_of_occurs (reach := 0) hi he).countsOk hs
  powerOn s t he hs := by
    obtain rfl := Host.Outcome.next.inj he
    exact State.reset_countsOk
  powerOnRelease s t he hs := by
    unfold execPowerOnRelease at he
    split at he <;> obtain rfl := Host.Outcome.next.inj he
    · exact hs
    · exact hs
  portReset h s hs := by
    refine State.resetPort_keeps (fun _ _ huv hu => huv.countsOk hu) ?_ ?_ ?_ ?_ hs
    · exact fun u hu => State.releasePin_countsOk h hu
    · intro u hu
      obtain ⟨hhost, hlane, hstation⟩ := hu
      refine ⟨fun k => ?_, hlane, hstation⟩
      by_cases e : h = k
      · subst e
        simpa [Mailbox.fresh] using (hhost h).2.2
      · simpa [e] using hhost k
    · exact fun u l hu => hu.setLane l (hu.2.1 l)
    · exact fun u l ho hu => State.CountsOk.setLane (s := u.loseUsage h _) hu l (hu.2.1 l)
  portResetRelease h s t he hs := by
    simp only [execPortResetRelease] at he
    split at he <;> obtain rfl := Host.Outcome.next.inj he
    · exact hs
    · exact hs

theorem State.directQueue_tick (s : State) (h : HostId) : s.tick.directQueue h = tickHead (s.directQueue h) := by
  simp [State.directQueue, State.tick]

theorem tickHead_length (q : List DirectRequest) : (tickHead q).length = q.length := by
  cases q <;> rfl

/-- Settles O8: every act and every accepted request keeps the ends, and a microsecond moves no count up. -/
theorem everyStepKeepsTheCounts : Obligations.EveryStepKeepsTheCounts := by
  intro s t hs he
  refine keptByCommands_countsOk.step (fun u hu => ?_) (fun u q hu => hu) hs he
  obtain ⟨hhost, hlane, hstation⟩ := hu
  refine ⟨fun h => ?_, fun l => ?_, hstation⟩
  · rw [State.directQueue_tick, tickHead_length]
    exact hhost h
  · rw [State.lane_tick]
    exact hlane l

/-! ### Banks and pins -/

/-- A write bank is neither front nor pinned. -/
def State.WriteOk (s : State) : Prop :=
  ∀ l b, (s.lane l).write = some b → (s.lane l).front ≠ some b ∧ s.pinned l b = false

theorem State.pinned_eq_false {s : State} {l : LaneId} {b : BankId} :
    s.pinned l b = false ↔ ∀ h, (s.port h).pin ≠ some (l, b) := by
  simp [State.pinned, allHosts, Fin.forall_fin_succ]

/-- Pins that stay or go, banks that stay or are given up, keep the write banks apart. -/
theorem State.WriteOk.shrink {s t : State} (hs : s.WriteOk)
    (hp : ∀ h, (t.port h).pin = (s.port h).pin ∨ (t.port h).pin = none)
    (hl : ∀ l, ((t.lane l).write = (s.lane l).write ∧ (t.lane l).front = (s.lane l).front) ∨ (t.lane l).write = none) :
    t.WriteOk := by
  intro l b hw
  obtain ⟨hwrite, hfront⟩ | hnone := hl l
  · obtain ⟨hf, hpin⟩ := hs l b (hwrite ▸ hw)
    refine ⟨hfront ▸ hf, State.pinned_eq_false.mpr fun h => ?_⟩
    obtain e | e := hp h <;> rw [e]
    · exact State.pinned_eq_false.mp hpin h
    · simp
  · simp [hnone] at hw

theorem State.takeBank_writeOk {s : State} (l : LaneId) (hs : s.WriteOk) : (s.takeBank l).WriteOk := by
  intro m c hw
  have hpin : (s.takeBank l).pinned m c = s.pinned m c := by rw [State.takeBank_eq]; rfl
  rw [hpin, State.takeBank_front]
  obtain ⟨b, -, hf, hp, e⟩ | ⟨-, e⟩ := s.takeBank_cases l <;> rw [e] at hw
  · by_cases hl : l = m
    · subst hl
      obtain rfl : b = c := by simpa using hw
      exact ⟨hf, hp⟩
    · exact hs m c (by simpa [hl, State.clearBank] using hw)
  · by_cases hl : l = m
    · subst hl
      exact hs l c (by simpa using hw)
    · exact hs m c (by simpa [hl] using hw)

theorem State.releasePin_writeOk {s : State} (h : HostId) (hs : s.WriteOk) : (s.releasePin h).WriteOk := by
  have unpinned : (s.setPort h { s.port h with pin := none }).WriteOk := by
    refine hs.shrink (fun k => ?_) fun l => .inl ⟨rfl, rfl⟩
    by_cases e : h = k
    · subst e; simp
    · simp [e]
  obtain ⟨-, e⟩ | ⟨l, b, -, e⟩ := s.releasePin_cases h <;> rw [e]
  · exact hs
  · split
    · exact State.takeBank_writeOk l unpinned
    · exact unpinned

theorem Port.released_pin (p : Port) (k : HeldKind) {r : Reply} (hr : r.pins = none) : (p.released k r).pin = p.pin := by
  obtain ⟨q, -, -, e⟩ | e := p.released_cases k r <;> rw [e]
  simp [Port.answered, hr]

theorem Port.released_drawsFrom (p : Port) (k : HeldKind) {r : Reply} (hr : r.pins = none) :
    (p.released k r).drawsFrom = p.drawsFrom := by
  obtain ⟨q, hq, -, e⟩ | e := p.released_cases k r <;> rw [e]
  simp [Port.answered, Port.drawsFrom, hr, hq]

/-- An act of another block leaves every pin and what every port draws from. -/
theorem Act.pin {s t : State} (h : Act reach s t) (k : HostId) :
    (t.port k).pin = (s.port k).pin ∧ (t.port k).drawsFrom = (s.port k).drawsFrom := by
  cases h with
  | takeBank l => rw [State.takeBank_eq]; exact ⟨rfl, rfl⟩
  | event j b => rw [State.queueEvent_eq]; exact ⟨rfl, rfl⟩
  | released j kind r hr =>
    by_cases e : j = k
    · subst e
      rw [State.port_setPort_self]
      exact ⟨Port.released_pin _ _ hr, Port.released_drawsFrom _ _ hr⟩
    · simp [e]
  | control t ht => rw [ht]; exact ⟨rfl, rfl⟩
  | line hn t ht => rw [ht]; exact ⟨rfl, rfl⟩
  | _ => exact ⟨rfl, rfl⟩

theorem State.not_busy_of_inReset {s : State} {h : HostId} (hr : (s.port h).state = .inReset) :
    (s.port h).isBusy = false := by
  simp [Port.isBusy, hr]

theorem Act.writeOk {s t : State} (h : Act reach s t) (hs : s.WriteOk) : t.WriteOk := by
  have pins (k : HostId) := Or.inl (b := (t.port k).pin = none) (h.pin k).1
  cases h with
  | lane l x hx =>
    intro m c hw
    by_cases e : l = m
    · subst e
      rw [State.lane_setLane_self] at hw ⊢
      obtain ⟨hf, hwrite⟩ | ⟨hnone, -⟩ := hx.banks
      · rw [hf]
        exact hs l c (hwrite ▸ hw)
      · simp [hnone] at hw
    · simp only [State.lane_setLane_ne _ _ e] at hw ⊢
      exact hs m c hw
  | takeBank l => exact State.takeBank_writeOk l hs
  | event j b => exact hs.shrink pins fun m => by rw [State.queueEvent_eq]; exact .inl ⟨rfl, rfl⟩
  | control t ht => exact hs.shrink pins fun m => by rw [ht]; exact .inl ⟨rfl, rfl⟩
  | line hn t ht => exact hs.shrink pins fun m => by rw [ht]; exact .inl ⟨rfl, rfl⟩
  | _ => exact hs.shrink pins fun m => .inl ⟨rfl, rfl⟩

theorem Act.banksOk {s t : State} (h : Act reach s t) (hs : s.BanksOk) : t.BanksOk := by
  obtain ⟨hpor, hwrite, hpin⟩ := hs
  refine ⟨fun hlow k => ?_, h.writeOk hwrite, fun k => ?_⟩
  · have hr := hpor (h.holdings.porLow ▸ hlow) k
    rw [h.port_of_not_busy k (State.not_busy_of_inReset hr)]
    exact hr
  · rw [(h.pin k).1, (h.pin k).2]
    exact hpin k

theorem Acts.banksOk {s t : State} (h : Acts reach s t) (hs : s.BanksOk) : t.BanksOk :=
  Acts.keeps (fun _ _ huv hu => huv.banksOk hu) h hs

theorem State.pin_of_not_ready {s : State} (hs : s.BanksOk) {h : HostId} (hr : (s.port h).isReady = false) :
    (s.port h).pin = none := by
  rw [hs.2.2 h]
  unfold Port.drawsFrom
  unfold Port.isReady at hr
  split <;> simp_all

theorem State.porLow_of_open {s : State} (hs : s.BanksOk) {h : HostId} (hi : (s.port h).state ≠ .inReset) :
    s.porLow = false := by
  by_contra hp
  exact hi (hs.1 (by simpa using hp) h)

/-- A change of one open port: its pin stays or goes, or becomes one on a front bank, and agrees with its response. -/
theorem State.BanksOk.setPort {s : State} (hs : s.BanksOk) (h : HostId) {p : Port} (hd : p.pin = p.drawsFrom)
    (hi : s.porLow = true → p.state = .inReset)
    (hp : p.pin = none ∨ p.pin = (s.port h).pin ∨ ∃ l b, p.pin = some (l, b) ∧ (s.lane l).front = some b) :
    (s.setPort h p).BanksOk := by
  obtain ⟨hpor, hwrite, hpin⟩ := hs
  refine ⟨fun hlow k => ?_, fun l b hw => ?_, fun k => ?_⟩
  · by_cases e : h = k
    · subst e; simpa using hi hlow
    · simpa [e] using hpor hlow k
  · obtain ⟨hf, hfree⟩ := hwrite l b hw
    refine ⟨hf, State.pinned_eq_false.mpr fun k => ?_⟩
    by_cases e : h = k
    · subst e
      rw [State.port_setPort_self]
      obtain e | e | ⟨m, c, e, hfront⟩ := hp <;> rw [e]
      · simp
      · exact State.pinned_eq_false.mp hfree h
      · rintro ⟨rfl, rfl⟩
        exact hf hfront
    · simpa [e] using State.pinned_eq_false.mp hfree k
  · by_cases e : h = k
    · subst e; simpa using hd
    · simpa [e] using hpin k

theorem PortAct.banksOk {s t : State} (h : PortAct s t) (hs : s.BanksOk) : t.BanksOk := by
  cases h with
  | leave h r frame sticky hr =>
    have hpor := State.porLow_of_open hs (h := h) (by simp [hr])
    have hlow : ((s.setPort h { s.port h with state := .idle, frame := frame, sticky := sticky }).releasePin h).porLow
        = false := (State.releasePin_holdings _ h).porLow.trans hpor
    refine ⟨fun e => by rw [hlow] at e; simp at e, State.releasePin_writeOk h ?_, fun k => ?_⟩
    · refine State.WriteOk.shrink (s := s) hs.2.1 (fun k => ?_) fun l => .inl ⟨rfl, rfl⟩
      by_cases e : h = k
      · subst e; simp
      · simp [e]
    · rw [State.releasePin_port]
      by_cases e : h = k
      · subst e; simp [Port.drawsFrom]
      · simpa [e] using hs.2.2 k
  | answer h st tag r hr hi hp =>
    have hpor := State.porLow_of_open hs hi
    have hnone := State.pin_of_not_ready hs hr
    refine hs.setPort h ?_ (fun e => by simp [hpor] at e) ?_
    · cases e : r.pins <;> simp [Port.answered, Port.drawsFrom, e, hnone]
    · cases e : r.pins with
      | none => simp [Port.answered, e]
      | some lb => exact .inr (.inr ⟨lb.1, lb.2, by simp [Port.answered, e], hp _ _ e⟩)
  | port h p hst hp hc =>
    refine hs.setPort h ?_ (fun e => hst.trans (hs.1 e h)) (.inr (.inl hp))
    rw [hp, hs.2.2 h, Port.drawsFrom, Port.drawsFrom, hst]
  | fetched => exact hs

/-- Ports as they were, and each lane's banks as they were or its write bank given up. -/
theorem State.BanksOk.of_lanes {s t : State} (hs : s.BanksOk) (hports : t.ports = s.ports) (hpor : t.porLow = s.porLow)
    (hl : ∀ l, ((t.lane l).write = (s.lane l).write ∧ (t.lane l).front = (s.lane l).front) ∨ (t.lane l).write = none) :
    t.BanksOk := by
  have hport (h : HostId) : t.port h = s.port h := congrArg (look · h) hports
  obtain ⟨hlow, hwrite, hpin⟩ := hs
  refine ⟨fun e k => ?_, State.WriteOk.shrink hwrite (fun k => ?_) hl, fun k => ?_⟩
  · rw [hport]; exact hlow (hpor ▸ e) k
  · rw [hport]; exact .inl rfl
  · rw [hport]; exact hpin k

theorem State.BanksOk.setLane {s : State} (hs : s.BanksOk) (l : LaneId) {x : Lane}
    (hx : (x.write = (s.lane l).write ∧ x.front = (s.lane l).front) ∨ x.write = none) : (s.setLane l x).BanksOk := by
  refine hs.of_lanes rfl rfl fun m => ?_
  by_cases e : l = m
  · subst e; simpa using hx
  · simp [e]

theorem Edit.banksOk {h : HostId} {s t : State} (he : Edit h s t) (hs : s.BanksOk) : t.BanksOk := by
  cases he with
  | claim l => exact hs.setLane l (.inr rfl)
  | release l => exact State.BanksOk.setLane (s := s.freeSteps h _) hs l (.inr rfl)
  | move l j => exact State.BanksOk.setLane (s := (s.loseUsage h _).gainUsage j _) hs l (.inl ⟨rfl, rfl⟩)
  | adopt l => exact State.BanksOk.setLane (s := s.gainUsage h _) hs l (.inl ⟨rfl, rfl⟩)
  | place l n => exact State.BanksOk.setLane (s := s.placeSteps h n) hs l (.inl ⟨rfl, rfl⟩)
  | free l n => exact State.BanksOk.setLane (s := s.freeSteps h n) hs l (.inl ⟨rfl, rfl⟩)
  | config l => exact hs.setLane l (.inl ⟨rfl, rfl⟩)
  | arm l => exact hs.setLane l (.inl ⟨rfl, rfl⟩)
  | disarm l => exact hs.setLane l (.inl ⟨rfl, rfl⟩)
  | disarmLater l => exact hs.setLane l (.inl ⟨rfl, rfl⟩)
  | clearOverrun l => exact hs.setLane l (.inl ⟨rfl, rfl⟩)
  | replace l => exact hs.setLane l (.inl ⟨rfl, rfl⟩)
  | patch l => exact hs.setLane l (.inl ⟨rfl, rfl⟩)
  | subscribe l => exact hs.setLane l (.inl ⟨rfl, rfl⟩)
  | settings entries r =>
    unfold State.writeSettings
    dsimp only
    split
    · exact hs
    · exact hs
  | arrive l => exact (s.arrive_acts (reach := 0) l).banksOk hs
  | stop l => exact (s.stopLane_acts (reach := 0) l).banksOk hs
  | lineReset fda => exact Acts.banksOk (State.beginLineReset_acts (reach := 0) { s with fda := fda }) hs
  | goOff => exact (s.goOff_acts (reach := 0)).banksOk hs
  | same => exact hs
  | mask => exact hs
  | submit => exact hs
  | takeLease => exact hs
  | renewLease => exact hs
  | dropLease => exact hs
  | timer => exact hs
  | waitOff => exact hs

theorem keptByCommands_banksOk : KeptByCommands State.BanksOk where
  port _ _ h hs := h.banksOk hs
  edit _ _ _ _ he hs := he.banksOk hs
  hold h s k tag ha _ hs := by
    have ended : (s.discardUnread h).BanksOk :=
      PortActs.keeps (fun _ _ huv hu => huv.banksOk hu) (s.discardUnread_acts h) hs
    obtain ⟨hr, hi⟩ := s.discardUnread_open h (State.not_inReset_of_accepts ha)
    have hnone := State.pin_of_not_ready ended hr
    refine ended.setPort h ?_ (fun e => ?_) (.inl hnone)
    · simpa [Port.drawsFrom] using hnone
    · simp [State.porLow_of_open ended hi] at e
  event _ _ _ hi he hs := (exec_acts_of_occurs (reach := 0) hi he).banksOk hs
  powerOn s t he hs := by
    obtain rfl := Host.Outcome.next.inj he
    refine ⟨fun _ h => ?_, fun l b hw => ?_, fun h => ?_⟩
    · simp [State.port, Port.fresh]
    · simp [State.lane, State.reset, Lane.fresh] at hw
    · simp [State.port, Port.fresh, Port.drawsFrom]
  powerOnRelease s t he hs := by
    unfold execPowerOnRelease at he
    split at he <;> obtain rfl := Host.Outcome.next.inj he
    next hlow =>
      have hport (h : HostId) : (look (s.ports.map fun p =>
          if p.prst = .high then { p with state := .idle } else p) h).pin = (s.port h).pin := by
        rw [look_map]; split <;> rfl
      refine ⟨by simp, State.WriteOk.shrink (s := s) hs.2.1 (fun h => .inl (hport h)) fun l => .inl ⟨rfl, rfl⟩, fun h => ?_⟩
      have hr : (look s.ports h).state = .inReset := hs.1 hlow h
      have hnone : (s.port h).pin = none := State.pin_of_not_ready hs (by simp [Port.isReady, State.port, hr])
      refine (hport h).trans (hnone.trans ?_)
      simp only [State.port, look_map]
      split <;> simp [Port.drawsFrom, hr]
    · exact hs
  portReset h s hs := by
    refine State.resetPort_keeps (fun _ _ huv hu => huv.banksOk hu) ?_ ?_ ?_ ?_ hs
    · intro u hu
      refine ⟨fun hlow k => ?_, ?_, fun k => ?_⟩
      · by_cases e : h = k
        · subst e; simp [State.closePort]
        · have hr := hu.1 ((u.closePort_holdings h).porLow ▸ hlow) k
          simpa [State.closePort, e, State.releasePin_port] using hr
      · refine State.WriteOk.shrink (State.releasePin_writeOk h hu.2.1) (fun k => ?_) fun l => .inl ⟨rfl, rfl⟩
        by_cases e : h = k
        · subst e; simp [State.closePort]
        · simp [State.closePort, e]
      · by_cases e : h = k
        · subst e; simp [State.closePort, Port.drawsFrom]
        · simpa [State.closePort, e, State.releasePin_port] using hu.2.2 k
    · exact fun u hu => hu
    · exact fun u l hu => hu.setLane l (.inl ⟨rfl, rfl⟩)
    · exact fun u l ho hu => State.BanksOk.setLane (s := u.loseUsage h _) hu l (.inl ⟨rfl, rfl⟩)
  portResetRelease h s t he hs := by
    simp only [execPortResetRelease] at he
    split at he <;> obtain rfl := Host.Outcome.next.inj he
    · refine hs.setPort h ?_ (fun e => by simp [e]) (.inl rfl)
      cases s.porLow <;> simp [Port.drawsFrom]
    · exact hs

theorem State.port_tick (s : State) (h : HostId) : s.tick.port h = { s.port h with expiry := ticked (s.port h).expiry } := by
  simp [State.port, State.tick]

/-- Settles O6: every act, accepted request and reset keeps the write banks apart and the pins with their responses. -/
theorem everyStepKeepsTheBanks : Obligations.EveryStepKeepsTheBanks := by
  intro s t hs he
  refine keptByCommands_banksOk.step (fun u hu => ?_) (fun u q hu => hu) hs he
  obtain ⟨hpor, hwrite, hpin⟩ := hu
  refine ⟨fun hlow h => ?_, State.WriteOk.shrink (s := u) hwrite (fun h => ?_) fun l => ?_, fun h => ?_⟩
  · rw [State.port_tick]; exact hpor hlow h
  · rw [State.port_tick]; exact .inl rfl
  · rw [State.lane_tick]; exact .inl ⟨rfl, rfl⟩
  · rw [State.port_tick]; exact hpin h

end Sys2Proof.Machine
end


section
/-! SUPPORT. The ports in reset: what their hosts are left with after every act, accepted request and reset, and the statement
about them. -/

set_option Elab.async false

variable {reach : Nat}

namespace Sys2Proof.Machine

/-- Nothing waits for the host of a port: no record, no direct request, no lease, no pin, no flag and no subscription. -/
structure State.Vacated (s : State) (k : HostId) : Prop where
  mailbox : s.mailbox k = .fresh
  direct : s.directQueue k = []
  lease : s.lease ≠ some k
  pin : (s.port k).pin = none
  sticky : (s.port k).sticky = .clear
  subscribers : ∀ l, look (s.lane l).subscribers k = false

theorem State.resetPortsOk_iff (s : State) :
    s.ResetPortsOk ↔ ∀ k, s.inReset k = true → s.Vacated k ∧ ∀ l, (s.lane l).owner ≠ some k := by
  constructor
  · intro hs k hk
    obtain ⟨hmail, hdirect, hlease, hpin, hsticky, hlane⟩ := hs k hk
    exact ⟨⟨hmail, hdirect, hlease, hpin, hsticky, fun l => (hlane l).2⟩, fun l => (hlane l).1⟩
  · intro hs k hk
    obtain ⟨⟨hmail, hdirect, hlease, hpin, hsticky, hsub⟩, howner⟩ := hs k hk
    exact ⟨hmail, hdirect, hlease, hpin, hsticky, fun l => ⟨howner l, hsub l⟩⟩

theorem State.state_of_inReset {s : State} {k : HostId} (hk : s.inReset k = true) : (s.port k).state = .inReset := by
  simpa [State.inReset] using hk

theorem Port.released_inReset (p : Port) (k : HeldKind) (r : Reply) :
    ((p.released k r).state == .inReset) = (p.state == .inReset) := by
  obtain ⟨q, hq, -, e⟩ | e := p.released_cases k r <;> rw [e]
  rw [hq]
  rfl

/-- No act of another block resets a port or ends a reset. -/
theorem Act.inReset {s t : State} (h : Act reach s t) (k : HostId) : t.inReset k = s.inReset k := by
  cases h with
  | takeBank l => rw [State.takeBank_eq]; rfl
  | event j b => rw [State.queueEvent_eq]; rfl
  | released j kind r hr =>
    by_cases e : j = k
    · subst e
      simpa [State.inReset] using Port.released_inReset (s.port j) kind r
    · simp [State.inReset, e]
  | control t ht => rw [ht]; rfl
  | line hn t ht => rw [ht]; rfl
  | _ => rfl

theorem Acts.inReset {s t : State} (h : Acts reach s t) (k : HostId) : t.inReset k = s.inReset k :=
  Acts.keeps (P := fun u => u.inReset k = s.inReset k) (fun _ _ huv hu => (huv.inReset k).trans hu) h rfl

/-- No record is queued for a port in reset (R138). -/
theorem Act.mailbox_of_reset {s t : State} (h : Act reach s t) {k : HostId} (hk : s.inReset k = true) :
    t.mailbox k = s.mailbox k := by
  cases h with
  | takeBank l => rw [State.takeBank_eq]; rfl
  | event j b =>
    rw [State.queueEvent_mailbox, if_neg]
    rintro ⟨rfl, hj⟩
    simp [hk] at hj
  | control t ht => rw [ht]; rfl
  | line hn t ht => rw [ht]; rfl
  | _ => rfl

/-- An act of another block submits no direct request. -/
theorem Act.direct_of_empty {s t : State} (h : Act reach s t) {k : HostId} (hd : s.directQueue k = []) :
    t.directQueue k = [] := by
  cases h with
  | takeBank l => rw [State.takeBank_eq]; exact hd
  | event j b => rw [State.queueEvent_eq]; exact hd
  | control t ht => rw [ht]; exact hd
  | line hn t ht => rw [ht]; exact hd
  | queue j q hq hst =>
    by_cases e : j = k
    · subst e
      rw [hd] at hq
      simpa using hq
    · simpa [e] using hd
  | _ => exact hd

/-- An act of another block grants no lease. -/
theorem Act.lease {s t : State} (h : Act reach s t) : t.lease = s.lease ∨ t.lease = none := by
  cases h with
  | takeBank l => rw [State.takeBank_eq]; exact .inl rfl
  | event j b => rw [State.queueEvent_eq]; exact .inl rfl
  | control t ht => rw [ht]; exact .inl rfl
  | line hn t ht => rw [ht]; exact .inl rfl
  | unlease => exact .inr rfl
  | _ => exact .inl rfl

/-- Nothing comes to the host of a port in reset by an act of another block (R138, R147). -/
theorem Act.vacated {s t : State} (h : Act reach s t) {k : HostId} (hk : s.inReset k = true) (hs : s.Vacated k) : t.Vacated k := by
  have hport := h.port_of_not_busy k (State.not_busy_of_inReset (State.state_of_inReset hk))
  refine ⟨(h.mailbox_of_reset hk).trans hs.mailbox, h.direct_of_empty hs.direct, ?_, hport ▸ hs.pin, hport ▸ hs.sticky,
    fun l => ?_⟩
  · obtain e | e := h.lease <;> rw [e]
    · exact hs.lease
    · simp
  · rw [h.holdings.subscribers]
    exact hs.subscribers l

theorem Acts.mailbox_of_reset {s t : State} (h : Acts reach s t) {k : HostId} (hk : s.inReset k = true) :
    t.mailbox k = s.mailbox k :=
  (Acts.keeps (P := fun u => u.inReset k = true ∧ u.mailbox k = s.mailbox k)
    (fun _ _ huv hu => ⟨(huv.inReset k).trans hu.1, (huv.mailbox_of_reset hu.1).trans hu.2⟩) h ⟨hk, rfl⟩).2

theorem Acts.direct_of_empty {s t : State} (h : Acts reach s t) {k : HostId} (hd : s.directQueue k = []) :
    t.directQueue k = [] :=
  Acts.keeps (P := fun u => u.directQueue k = []) (fun _ _ huv hu => huv.direct_of_empty hu) h hd

theorem Act.resetPortsOk {s t : State} (h : Act reach s t) (hs : s.ResetPortsOk) : t.ResetPortsOk := by
  rw [State.resetPortsOk_iff] at hs ⊢
  intro k hk
  have hk' : s.inReset k = true := h.inReset k ▸ hk
  obtain ⟨hv, ho⟩ := hs k hk'
  exact ⟨h.vacated hk' hv, fun l => by rw [h.holdings.owner]; exact ho l⟩

theorem Acts.resetPortsOk {s t : State} (h : Acts reach s t) (hs : s.ResetPortsOk) : t.ResetPortsOk :=
  Acts.keeps (fun _ _ huv hu => huv.resetPortsOk hu) h hs

/-- What a port in reset keeps while another port changes. -/
theorem State.Vacated.of_same {s t : State} {k : HostId} (hs : s.Vacated k) (hmail : t.mailbox k = s.mailbox k)
    (hdirect : t.directQueue k = s.directQueue k) (hlease : t.lease = s.lease ∨ t.lease ≠ some k)
    (hport : t.port k = s.port k)
    (hsub : ∀ l, look (t.lane l).subscribers k = look (s.lane l).subscribers k ∨ look (t.lane l).subscribers k = false) :
    t.Vacated k := by
  refine ⟨hmail.trans hs.mailbox, hdirect.trans hs.direct, ?_, hport ▸ hs.pin, hport ▸ hs.sticky, fun l => ?_⟩
  · obtain e | e := hlease
    · rw [e]; exact hs.lease
    · exact e
  · obtain e | e := hsub l
    · rw [e]; exact hs.subscribers l
    · exact e

theorem State.releasePin_mailbox (s : State) (h k : HostId) : (s.releasePin h).mailbox k = s.mailbox k := by
  rw [State.releasePin_eq]; rfl

theorem PortAct.resetPortsOk {s t : State} (h : PortAct s t) (hs : s.ResetPortsOk) : t.ResetPortsOk := by
  have owners {u : State} (hu : SameHoldings s u) {k : HostId} (ho : ∀ l, (s.lane l).owner ≠ some k) (l : LaneId) :
      (u.lane l).owner ≠ some k := by rw [hu.owner]; exact ho l
  have hold := h.holdings
  rw [State.resetPortsOk_iff] at hs ⊢
  intro k hk
  cases h with
  | leave h r frame sticky hr =>
    have hne : h ≠ k := by
      rintro rfl
      simp [State.inReset, State.releasePin_port] at hk
    obtain ⟨hv, ho⟩ := hs k (by simpa [State.inReset, State.releasePin_port, hne] using hk)
    refine ⟨hv.of_same ?_ ?_ (.inl ?_) ?_ fun l => .inl (by rw [hold.subscribers]), owners hold ho⟩
    · rw [State.releasePin_eq]; rfl
    · rw [State.releasePin_eq]; rfl
    · rw [State.releasePin_eq]; rfl
    · rw [State.releasePin_port, if_neg hne, State.port_setPort_ne _ _ hne]
  | answer h st tag r hr hi hp =>
    have hne : h ≠ k := by
      rintro rfl
      simp [State.inReset, Port.answered] at hk
    obtain ⟨hv, ho⟩ := hs k (by simpa [State.inReset, hne] using hk)
    exact ⟨hv.of_same rfl rfl (.inl rfl) (State.port_setPort_ne _ _ hne) fun l => .inl rfl, ho⟩
  | port h p hst hp hc =>
    by_cases hne : h = k
    · subst hne
      have hk' : s.inReset h = true := by simpa [State.inReset, hst] using hk
      obtain ⟨hv, ho⟩ := hs h hk'
      refine ⟨⟨hv.mailbox, hv.direct, hv.lease, ?_, ?_, hv.subscribers⟩, ho⟩
      · simpa [hp] using hv.pin
      · simpa using hc (State.state_of_inReset hk') hv.sticky
    · obtain ⟨hv, ho⟩ := hs k (by simpa [State.inReset, hne] using hk)
      exact ⟨hv.of_same rfl rfl (.inl rfl) (State.port_setPort_ne _ _ hne) fun l => .inl rfl, ho⟩
  | fetched h count lost hi =>
    have hne : h ≠ k := by
      rintro rfl
      exact hi (State.state_of_inReset hk)
    obtain ⟨hv, ho⟩ := hs k hk
    exact ⟨hv.of_same (State.mailbox_setMailbox_ne _ _ hne) rfl (.inl rfl) rfl fun l => .inl rfl, ho⟩

/-- A change of one lane that gives it to no host in reset. -/
theorem State.ResetPortsOk.setLane {s : State} (hs : s.ResetPortsOk) (l : LaneId) {x : Lane}
    (hx : ∀ k, s.inReset k = true → x.owner ≠ some k ∧
      (look x.subscribers k = look (s.lane l).subscribers k ∨ look x.subscribers k = false)) : (s.setLane l x).ResetPortsOk := by
  rw [State.resetPortsOk_iff] at hs ⊢
  intro k hk
  obtain ⟨hv, ho⟩ := hs k hk
  obtain ⟨hxo, hxs⟩ := hx k hk
  refine ⟨hv.of_same rfl rfl (.inl rfl) rfl fun m => ?_, fun m => ?_⟩
  · by_cases e : l = m
    · subst e; simpa using hxs
    · simp [e]
  · by_cases e : l = m
    · subst e; simpa using hxo
    · simpa [e] using ho m

theorem Edit.resetPortsOk {h : HostId} {s t : State} (ha : s.accepts h = true) (he : Edit h s t) (hs : s.ResetPortsOk) :
    t.ResetPortsOk := by
  have hopen : ∀ k, s.inReset k = true → h ≠ k := by
    rintro k hk rfl
    exact State.not_inReset_of_accepts ha (State.state_of_inReset hk)
  have keep (l : LaneId) (k : HostId) (hk : s.inReset k = true) :
      (s.lane l).owner ≠ some k ∧ (look (s.lane l).subscribers k = look (s.lane l).subscribers k
        ∨ look (s.lane l).subscribers k = false) := ⟨((s.resetPortsOk_iff.mp hs k hk).2 l), .inl rfl⟩
  cases he with
  | claim l hc =>
    refine hs.setLane l fun k hk => ⟨?_, .inr (by simp [Lane.fresh])⟩
    simpa [Lane.owner] using hopen k hk
  | release l => exact State.ResetPortsOk.setLane (s := s.freeSteps h _) hs l fun k hk => ⟨by simp [Lane.owner, Lane.fresh], .inr (by simp [Lane.fresh])⟩
  | move l j ho hr hj hi =>
    refine State.ResetPortsOk.setLane (s := (s.loseUsage h _).gainUsage j _) hs l fun k hk => ⟨?_, .inl rfl⟩
    have hk : s.inReset k = true := hk
    simp only [Lane.owner, ne_eq, Option.some.injEq]
    rintro rfl
    simp [hi] at hk
  | adopt l =>
    refine State.ResetPortsOk.setLane (s := s.gainUsage h _) hs l fun k hk => ⟨?_, .inl rfl⟩
    simpa [Lane.owner] using hopen k hk
  | place l n => exact State.ResetPortsOk.setLane (s := s.placeSteps h n) hs l (keep l)
  | free l n => exact State.ResetPortsOk.setLane (s := s.freeSteps h n) hs l (keep l)
  | config l => exact hs.setLane l (keep l)
  | arm l => exact hs.setLane l (keep l)
  | disarm l => exact hs.setLane l (keep l)
  | disarmLater l => exact hs.setLane l (keep l)
  | clearOverrun l => exact hs.setLane l (keep l)
  | replace l => exact hs.setLane l (keep l)
  | patch l => exact hs.setLane l (keep l)
  | subscribe l member =>
    refine hs.setLane l fun k hk => ⟨(keep l k hk).1, .inl ?_⟩
    exact look_put_ne _ _ (hopen k hk)
  | mask m enable =>
    rw [State.resetPortsOk_iff] at hs ⊢
    intro k hk
    obtain ⟨hv, ho⟩ := hs k hk
    exact ⟨hv.of_same (State.mailbox_setMailbox_ne _ _ (hopen k hk)) rfl (.inl rfl) rfl fun l => .inl rfl, ho⟩
  | submit =>
    rw [State.resetPortsOk_iff] at hs ⊢
    intro k hk
    obtain ⟨hv, ho⟩ := hs k hk
    exact ⟨hv.of_same rfl (State.directQueue_setDirectQueue_ne _ _ (hopen k hk)) (.inl rfl) rfl fun l => .inl rfl, ho⟩
  | takeLease =>
    rw [State.resetPortsOk_iff] at hs ⊢
    intro k hk
    obtain ⟨hv, ho⟩ := hs k hk
    exact ⟨hv.of_same rfl rfl (.inr (by simpa using hopen k hk)) rfl fun l => .inl rfl, ho⟩
  | dropLease =>
    rw [State.resetPortsOk_iff] at hs ⊢
    intro k hk
    obtain ⟨hv, ho⟩ := hs k hk
    exact ⟨hv.of_same rfl rfl (.inr (by simp)) rfl fun l => .inl rfl, ho⟩
  | settings entries r =>
    unfold State.writeSettings
    dsimp only
    split
    · exact hs
    · exact hs
  | arrive l => exact (s.arrive_acts (reach := 0) l).resetPortsOk hs
  | stop l => exact (s.stopLane_acts (reach := 0) l).resetPortsOk hs
  | lineReset fda => exact Acts.resetPortsOk (State.beginLineReset_acts (reach := 0) { s with fda := fda }) hs
  | goOff => exact (s.goOff_acts (reach := 0)).resetPortsOk hs
  | same => exact hs
  | renewLease => exact hs
  | timer => exact hs
  | waitOff => exact hs

/-- A port taken out of its host's use while it holds no response: BUSY, or open again. -/
theorem State.ResetPortsOk.setPort {s : State} (hs : s.ResetPortsOk) (h : HostId) {p : Port} (hp : p.state ≠ .inReset) :
    (s.setPort h p).ResetPortsOk := by
  rw [State.resetPortsOk_iff] at hs ⊢
  intro k hk
  have hne : h ≠ k := by
    rintro rfl
    exact hp (by simpa [State.inReset] using hk)
  obtain ⟨hv, ho⟩ := hs k (by simpa [State.inReset, hne] using hk)
  exact ⟨hv.of_same rfl rfl (.inl rfl) (State.port_setPort_ne _ _ hne) fun l => .inl rfl, ho⟩

/-! ### Port reset -/

/-- The ports in reset but one are vacated. -/
def State.OthersVacated (h : HostId) (s : State) : Prop :=
  ∀ k, h ≠ k → s.inReset k = true → s.Vacated k ∧ ∀ l, (s.lane l).owner ≠ some k

theorem Act.othersVacated {h : HostId} {s t : State} (ha : Act reach s t) (hs : s.OthersVacated h) : t.OthersVacated h := by
  intro k hne hk
  have hk' : s.inReset k = true := ha.inReset k ▸ hk
  obtain ⟨hv, ho⟩ := hs k hne hk'
  exact ⟨ha.vacated hk' hv, fun l => by rw [ha.holdings.owner]; exact ho l⟩

theorem State.OthersVacated.setLane {h : HostId} {s : State} (hs : s.OthersVacated h) (l : LaneId) {x : Lane}
    (ho : x.owner = (s.lane l).owner ∨ x.owner = none)
    (hsub : ∀ k, h ≠ k → look x.subscribers k = look (s.lane l).subscribers k) : (s.setLane l x).OthersVacated h := by
  intro k hne hk
  obtain ⟨hv, hown⟩ := hs k hne hk
  refine ⟨hv.of_same rfl rfl (.inl rfl) rfl fun m => .inl ?_, fun m => ?_⟩
  · by_cases e : l = m
    · subst e; simpa using hsub k hne
    · simp [e]
  · by_cases e : l = m
    · subst e
      rw [State.lane_setLane_self]
      obtain e | e := ho <;> rw [e]
      · exact hown l
      · simp
    · simpa [e] using hown m

theorem State.resetPort_othersVacated {s : State} (h : HostId) (hs : s.OthersVacated h) :
    (s.resetPort h).OthersVacated h := by
  refine State.resetPort_keeps (fun _ _ huv hu => huv.othersVacated hu) ?_ ?_ ?_ ?_ hs
  · intro u hu k hne hk
    obtain ⟨hv, ho⟩ := hu k hne (by simpa [State.inReset, State.closePort, hne, State.releasePin_port] using hk)
    refine ⟨hv.of_same ?_ ?_ (.inl ?_) ?_ fun l => .inl ?_, fun l => ?_⟩
    · exact u.releasePin_mailbox h k
    · unfold State.closePort; rw [State.releasePin_eq]; rfl
    · unfold State.closePort; rw [State.releasePin_eq]; rfl
    · simp [State.closePort, hne, State.releasePin_port]
    · rw [(u.closePort_holdings h).subscribers]
    · rw [(u.closePort_holdings h).owner]; exact ho l
  · intro u hu k hne hk
    obtain ⟨hv, ho⟩ := hu k hne hk
    exact ⟨hv.of_same (State.mailbox_setMailbox_ne _ _ hne) rfl (.inl rfl) rfl fun l => .inl rfl, ho⟩
  · exact fun u l hu => hu.setLane l (.inl rfl) fun k hne => look_put_ne _ _ hne
  · exact fun u l ho hu =>
      State.OthersVacated.setLane (s := u.loseUsage h _) (fun k hne hk => hu k hne hk |>.imp_left fun hv => hv.of_same rfl rfl (.inl rfl) rfl fun _ => .inl rfl) l (.inr rfl)
        fun k hne => rfl

/-- The lane is taken from the host whose port is reset, and from no other (R41). -/
theorem State.orphanIfOwned_owner (s : State) (h : HostId) (l m : LaneId) :
    ((s.orphanIfOwned h l).lane m).owner
      = if l = m ∧ (s.lane m).owner = some h then none else (s.lane m).owner := by
  by_cases ho : (s.lane l).owner = some h
  · rw [(s.orphanIfOwned_acts (reach := 0) h l ho).holdings.owner]
    by_cases e : l = m
    · subst e
      rw [if_pos ⟨rfl, ho⟩]
      simp [State.disown, Lane.owner]
    · simp [State.disown, e]
  · have same : s.orphanIfOwned h l = s := by unfold State.orphanIfOwned; rw [if_neg ho]
    rw [same, if_neg]
    rintro ⟨rfl, e⟩
    exact ho e

theorem State.orphanAll_owner (s : State) (h : HostId) (m : LaneId) :
    ((eachLane (fun l u => u.orphanIfOwned h l) s).lane m).owner ≠ some h := by
  unfold eachLane
  simp only [State.orphanIfOwned_owner]
  fin_cases m <;> simp

theorem State.unsubscribe_subscribers (s : State) (h k : HostId) (l m : LaneId) :
    look ((s.unsubscribe h l).lane m).subscribers k
      = if l = m ∧ h = k then false else look (s.lane m).subscribers k := by
  unfold State.unsubscribe
  by_cases e : l = m
  · subst e
    simp [look_put]
  · simp [e]

theorem State.unsubscribeAll_subscribers (s : State) (h : HostId) (m : LaneId) :
    look ((s.unsubscribeAll h).lane m).subscribers h = false := by
  unfold State.unsubscribeAll eachLane
  simp only [State.unsubscribe_subscribers]
  fin_cases m <;> simp

/-- The subscriptions are the lanes' alone. -/
theorem State.unsubscribeAll_keeps (s : State) (h : HostId) :
    (s.unsubscribeAll h).ports = s.ports ∧ (s.unsubscribeAll h).mail = s.mail := by
  unfold State.unsubscribeAll
  refine State.eachLane_keeps (P := fun u => u.ports = s.ports ∧ u.mail = s.mail) (fun l u hu => ?_) ⟨rfl, rfl⟩
  exact hu

theorem State.emptyDirect_queue (s : State) (h : HostId) : (s.emptyDirect h).directQueue h = [] := by
  have settled (u : State) (st : Step) (sent : Bool) : (u.settleToggle st sent).directQueue h = u.directQueue h := by
    rw [State.settleToggle_eq]; rfl
  have hdrop : (s.setDirectQueue h []).directQueue h = [] := State.directQueue_setDirectQueue_self _ _ _
  unfold State.emptyDirect
  dsimp only
  split
  · exact hdrop
  · split
    · split
      · split
        · exact hdrop
        · rw [settled]; exact hdrop
      · rw [settled]; exact hdrop
    · rw [settled]; exact hdrop

theorem State.yieldLease_lease (s : State) (h : HostId) : (s.yieldLease h).lease ≠ some h := by
  unfold State.yieldLease
  split
  · simp
  · assumption

/-- A run of acts leaves nothing to the host of a port in reset that had nothing. -/
theorem Acts.vacated {s t : State} (h : Acts reach s t) {k : HostId} (hk : s.inReset k = true) (hs : s.Vacated k) :
    t.inReset k = true ∧ t.Vacated k :=
  Acts.keeps (P := fun u => u.inReset k = true ∧ u.Vacated k)
    (fun _ _ huv hu => ⟨(huv.inReset k).trans hu.1, huv.vacated hu.1 hu.2⟩) h ⟨hk, hs⟩

theorem State.orphanIfOwned_vacated {s : State} {h : HostId} (l : LaneId) (hs : s.inReset h = true ∧ s.Vacated h) :
    (s.orphanIfOwned h l).inReset h = true ∧ (s.orphanIfOwned h l).Vacated h := by
  obtain ⟨hr, hv⟩ := hs
  by_cases ho : (s.lane l).owner = some h
  · refine (s.orphanIfOwned_acts (reach := 0) h l ho).vacated hr (hv.of_same rfl rfl (.inl rfl) rfl fun m => .inl ?_)
    by_cases e : l = m
    · subst e; simp [State.disown]
    · simp [State.disown, e]
  · unfold State.orphanIfOwned
    rw [if_neg ho]
    exact ⟨hr, hv⟩

/-- A port reset leaves its host with nothing (R170). -/
theorem State.resetPort_vacated (s : State) (h : HostId) :
    (s.resetPort h).Vacated h ∧ ∀ l, ((s.resetPort h).lane l).owner ≠ some h := by
  rw [State.resetPort_eq]
  refine ⟨(State.eachLane_keeps (P := fun u => u.inReset h = true ∧ u.Vacated h)
    (fun l u hu => State.orphanIfOwned_vacated l hu) ?_).2, fun l => State.orphanAll_owner _ h l⟩
  set closed := ((s.closePort h).setMailbox h .fresh).unsubscribeAll h with hclosed
  obtain ⟨hports, hmails⟩ := ((s.closePort h).setMailbox h .fresh).unsubscribeAll_keeps h
  have hport : closed.port h = ⟨.inReset, .low, (s.port h).frame.ignoredFrom, 0, .clear, none⟩ :=
    (congrArg (look · h) hports).trans (State.port_setPort_self _ _ _)
  have hmail : closed.mailbox h = .fresh :=
    (congrArg (look · h) hmails).trans (State.mailbox_setMailbox_self _ _ _)
  have acts : Acts 2 closed ((closed.emptyDirect h).yieldLease h) :=
    (closed.emptyDirect_acts (reach := 0) h).trans (State.yieldLease_acts _ h)
  have hreset : closed.inReset h = true := by simp [State.inReset, hport]
  have hport' := acts.port_of_not_busy h (by simp [Port.isBusy, hport])
  refine ⟨(acts.inReset h).trans hreset, (acts.mailbox_of_reset hreset).trans hmail,
    (State.yieldLease_acts (reach := 0) _ h).direct_of_empty (State.emptyDirect_queue _ h), State.yieldLease_lease _ h, ?_, ?_,
    fun l => ?_⟩
  · rw [hport', hport]
  · rw [hport', hport]
  · rw [acts.holdings.subscribers]
    exact State.unsubscribeAll_subscribers _ h l

theorem keptByCommands_resetPortsOk : KeptByCommands State.ResetPortsOk where
  port _ _ h hs := h.resetPortsOk hs
  edit _ _ _ ha he hs := he.resetPortsOk ha hs
  hold h s k tag ha _ hs :=
    State.ResetPortsOk.setPort
      (PortActs.keeps (fun _ _ huv hu => huv.resetPortsOk hu) (s.discardUnread_acts h) hs) h (by simp)
  event _ _ _ hi he hs := (exec_acts_of_occurs (reach := 0) hi he).resetPortsOk hs
  powerOn s t he hs := by
    obtain rfl := Host.Outcome.next.inj he
    intro k hk
    refine ⟨?_, ?_, ?_, ?_, ?_, fun l => ⟨?_, ?_⟩⟩
    · simp [State.mailbox, State.reset]
    · simp [State.directQueue, State.reset]
    · simp [State.reset]
    · simp [State.port, Port.fresh]
    · simp [State.port, Port.fresh]
    · simp [State.lane, State.reset, Lane.fresh, Lane.owner]
    · simp [State.lane, State.reset, Lane.fresh]
  powerOnRelease s t he hs := by
    unfold execPowerOnRelease at he
    split at he <;> obtain rfl := Host.Outcome.next.inj he
    · have hport (k : HostId) (hk : (look (s.ports.map fun p =>
          if p.prst = .high then { p with state := .idle } else p) k).state = .inReset) :
          look (s.ports.map fun p => if p.prst = .high then { p with state := .idle } else p) k = s.port k := by
        rw [look_map] at hk ⊢
        split at hk
        · simp at hk
        · rw [if_neg ‹_›]; rfl
      rw [State.resetPortsOk_iff] at hs ⊢
      intro k hk
      have hp := hport k (State.state_of_inReset hk)
      have hk' : s.inReset k = true := by
        have := State.state_of_inReset hk
        simp only [State.port, hp] at this
        simpa [State.inReset, State.port] using this
      obtain ⟨hv, ho⟩ := hs k hk'
      exact ⟨hv.of_same rfl rfl (.inl rfl) hp fun l => .inl rfl, ho⟩
    · exact hs
  portReset h s hs := by
    rw [State.resetPortsOk_iff] at hs ⊢
    intro k hk
    by_cases e : h = k
    · subst e
      exact s.resetPort_vacated h
    · exact State.resetPort_othersVacated h (fun j hne hj => hs j hj) k e hk
  portResetRelease h s t he hs := by
    simp only [execPortResetRelease] at he
    split at he <;> obtain rfl := Host.Outcome.next.inj he
    next hr =>
      rw [State.resetPortsOk_iff] at hs ⊢
      intro k hk
      by_cases e : h = k
      · subst e
        obtain ⟨hv, ho⟩ := hs h (by simp [State.inReset, hr])
        exact ⟨⟨hv.mailbox, hv.direct, hv.lease, by simp, by simp, hv.subscribers⟩, ho⟩
      · obtain ⟨hv, ho⟩ := hs k (by simpa [State.inReset, e] using hk)
        exact ⟨hv.of_same rfl rfl (.inl rfl) (State.port_setPort_ne _ _ e) fun l => .inl rfl, ho⟩
    · exact hs

/-- Settles O7: nothing that an act or a request of another host does reaches the host of a port in reset. -/
theorem everyStepKeepsResetPortsEmpty : Obligations.EveryStepKeepsResetPortsEmpty := by
  intro s t hs he
  refine keptByCommands_resetPortsOk.step (fun u hu k hk => ?_) (fun u q hu => hu) hs he
  have hk' : u.inReset k = true := by simpa [State.inReset, State.port_tick] using hk
  obtain ⟨hmail, hdirect, hlease, hpin, hsticky, hlane⟩ := hu k hk'
  refine ⟨hmail, ?_, hlease, ?_, ?_, fun l => ?_⟩
  · rw [State.directQueue_tick, hdirect]; rfl
  · rw [State.port_tick]; exact hpin
  · rw [State.port_tick]; exact hsticky
  · rw [State.lane_tick]; exact hlane l

end Sys2Proof.Machine
end


section
/-! SUPPORT. The link and the step in execution: what leaves them as they are, what every step end and grant leaves in
execution, what every link operation leaves, and the statement about the link. -/

set_option Elab.async false

variable {reach : Nat}

namespace Sys2Proof.Machine

/-! ### What the link sees -/

/-- The link as it was, no direct step of another kind, and no response held that was not. -/
structure SameLink (s t : State) : Prop where
  link : t.link = s.link
  disableWaiting : t.disableWaiting = s.disableWaiting
  faultAnnounced : t.faultAnnounced = s.faultAnnounced
  waits : ∀ h, (t.port h).waitsFor = (s.port h).waitsFor ∨ (t.port h).waitsFor = none
  direct : ∀ h, ∀ r ∈ t.directQueue h, ∃ r' ∈ s.directQueue h, r.step = r'.step

theorem SameLink.refl (s : State) : SameLink s s := ⟨rfl, rfl, rfl, fun _ => .inl rfl, fun _ r hr => ⟨r, hr, rfl⟩⟩

theorem SameLink.trans {s t u : State} (h : SameLink s t) (g : SameLink t u) : SameLink s u where
  link := g.link.trans h.link
  disableWaiting := g.disableWaiting.trans h.disableWaiting
  faultAnnounced := g.faultAnnounced.trans h.faultAnnounced
  waits k := by
    obtain e | e := g.waits k
    · rw [e]; exact h.waits k
    · exact .inr e
  direct k r hr := by
    obtain ⟨r', hr', e'⟩ := g.direct k r hr
    obtain ⟨r'', hr'', e''⟩ := h.direct k r' hr'
    exact ⟨r'', hr'', e'.trans e''⟩

/-- Nothing that the link sees changes where the ports and the direct queues stay. -/
theorem SameLink.of_eq {s t : State} (hl : t.link = s.link) (hd : t.disableWaiting = s.disableWaiting)
    (hf : t.faultAnnounced = s.faultAnnounced) (hp : t.ports = s.ports) (hq : t.direct = s.direct) : SameLink s t := by
  refine ⟨hl, hd, hf, fun h => .inl ?_, fun h r hr => ⟨r, ?_, rfl⟩⟩
  · rw [State.port, hp]; rfl
  · rw [State.directQueue, hq] at hr
    exact hr

theorem Port.released_waitsFor (p : Port) (k : HeldKind) (r : Reply) :
    (p.released k r).waitsFor = p.waitsFor ∨ (p.released k r).waitsFor = none := by
  obtain ⟨q, -, -, e⟩ | e := p.released_cases k r <;> rw [e]
  · exact .inr rfl
  · exact .inl rfl

/-- An act that does not reach the link leaves what the link sees. -/
theorem Act.sameLink {s t : State} (h : Act reach s t) (hr : reach ≤ 1) : SameLink s t := by
  cases h with
  | takeBank l => rw [State.takeBank_eq]; exact .of_eq rfl rfl rfl rfl rfl
  | event j b => rw [State.queueEvent_eq]; exact .of_eq rfl rfl rfl rfl rfl
  | queue j q hq hst =>
    refine ⟨rfl, rfl, rfl, fun _ => .inl rfl, fun k r hk => ?_⟩
    by_cases e : j = k
    · subst e
      exact hst r (by simpa using hk)
    · exact ⟨r, by simpa [e] using hk, rfl⟩
  | released j kind r hr =>
    refine ⟨rfl, rfl, rfl, fun k => ?_, fun _ r hr => ⟨r, hr, rfl⟩⟩
    by_cases e : j = k
    · subst e
      rw [State.port_setPort_self]
      exact (s.port j).released_waitsFor kind r
    · simp [e]
  | control t ht => rw [ht]; exact .of_eq rfl rfl rfl rfl rfl
  | line hn t ht => omega
  | _ => exact .of_eq rfl rfl rfl rfl rfl

theorem Acts.sameLink {s t : State} (h : Acts 1 s t) : SameLink s t :=
  Acts.keeps (fun _ _ huv hu => SameLink.trans hu (huv.sameLink le_rfl)) h (.refl s)

/-- The step in execution is no BREAK, and no attempt of it has begun. -/
def State.Calm (s : State) : Prop := ∀ e ∈ s.exec, e.inFlight = false ∧ e.step.segment.isSome = true

/-- No direct request is a BREAK, and a held LINK_DISABLE has one waiting. -/
structure State.DirectOk (s : State) : Prop where
  direct : ∀ h, ∀ r ∈ s.directQueue h, r.step.segment.isSome = true
  held : ∀ h, (s.port h).waitsFor = some .linkOff → s.disableWaiting = true

theorem SameLink.directOk {s t : State} (h : SameLink s t) (hs : s.DirectOk) : t.DirectOk where
  direct k r hr := by
    obtain ⟨r', hr', e⟩ := h.direct k r hr
    rw [e]
    exact hs.direct k r' hr'
  held k hk := by
    rw [h.disableWaiting]
    obtain e | e := h.waits k <;> rw [e] at hk
    · exact hs.held k hk
    · simp at hk

/-- An act that does not reach the link puts no attempt in flight and no BREAK into execution. -/
theorem Act.calm {s t : State} (h : Act reach s t) (hr : reach ≤ 1) (hd : s.DirectOk) (hs : s.Calm) : t.Calm := by
  cases h with
  | takeBank l => rw [State.takeBank_eq]; exact hs
  | event j b => rw [State.queueEvent_eq]; exact hs
  | control t ht => rw [ht]; exact hs
  | drop hn => simp [State.Calm]
  | take hn e hf he =>
    intro e' he'
    obtain rfl : e = e' := by simpa using he'
    refine ⟨hf, ?_⟩
    obtain hseg | ⟨h, r, hq, hstep⟩ := he
    · exact hseg
    · rw [hstep]
      exact hd.direct h r hq
  | line hn t ht => omega
  | _ => exact hs

/-- A run of acts that does not reach the link leaves the executor calm. -/
theorem Acts.calm {s t : State} (h : Acts 1 s t) (hd : s.DirectOk) (hs : s.Calm) : t.Calm :=
  (Acts.keeps (P := fun u => u.DirectOk ∧ u.Calm)
    (fun _ _ huv hu => ⟨(huv.sameLink le_rfl).directOk hu.1, huv.calm le_rfl hu.1 hu.2⟩) h ⟨hd, hs⟩).2

/-- An act of the lanes and the ports leaves the step in execution. -/
theorem Act.exec {s t : State} (h : Act 0 s t) : t.exec = s.exec := by
  cases h with
  | takeBank l => rw [State.takeBank_eq]
  | event j b => rw [State.queueEvent_eq]
  | control t ht => rw [ht]
  | drop hn => omega
  | take hn => omega
  | line hn => omega
  | _ => rfl

theorem Acts.exec {s t : State} (h : Acts 0 s t) : t.exec = s.exec :=
  Acts.keeps (P := fun u => u.exec = s.exec) (fun _ _ huv hu => huv.exec.trans hu) h rfl

/-- What the link sees stays, and an attempt is in flight of the same kind as before. -/
structure Steady (s t : State) : Prop extends SameLink s t where
  flight : t.exec.any (·.inFlight) = s.exec.any (·.inFlight)
  sent : t.exec.any (fun e => e.inFlight && e.step.isBroadcast) = s.exec.any (fun e => e.inFlight && e.step.isBroadcast)
  step : ∀ e ∈ t.exec, ∃ e' ∈ s.exec, e.step = e'.step

theorem Steady.of_exec {s t : State} (h : SameLink s t) (he : t.exec = s.exec) : Steady s t :=
  ⟨h, by rw [he], by rw [he], fun e hm => ⟨e, he ▸ hm, rfl⟩⟩

/-- A step that ends with no attempt in flight. -/
theorem Steady.of_drop {s t : State} (h : SameLink s t) (he : t.exec = none) (hs : ∀ e ∈ s.exec, e.inFlight = false) :
    Steady s t := by
  refine ⟨h, ?_, ?_, fun e hm => by simp [he] at hm⟩
  · rw [he]
    cases hx : s.exec with
    | none => rfl
    | some e => simp [hs e hx]
  · rw [he]
    cases hx : s.exec with
    | none => rfl
    | some e => simp [hs e hx]

theorem Steady.refl (s : State) : Steady s s := .of_exec (.refl s) rfl

theorem Steady.trans {s t u : State} (h : Steady s t) (g : Steady t u) : Steady s u where
  toSameLink := h.toSameLink.trans g.toSameLink
  flight := g.flight.trans h.flight
  sent := g.sent.trans h.sent
  step e he := by
    obtain ⟨e', he', hs'⟩ := g.step e he
    obtain ⟨e'', he'', hs''⟩ := h.step e' he'
    exact ⟨e'', he'', hs'.trans hs''⟩

theorem Acts.steady {s t : State} (h : Acts 0 s t) : Steady s t :=
  .of_exec (Acts.keeps (fun _ _ huv hu => SameLink.trans hu (huv.sameLink (Nat.zero_le _))) h (.refl s)) h.exec

theorem State.LinkOk.directOk {s : State} (hs : s.LinkOk) : s.DirectOk := ⟨hs.2.2.1, hs.2.2.2.2.2.1⟩

theorem Steady.linkOk {s t : State} (h : Steady s t) (hs : s.LinkOk) : t.LinkOk := by
  obtain ⟨hflight, hseg, -, hservice, hwait, -, hfault⟩ := id hs
  obtain ⟨hdirect, hheld⟩ := h.toSameLink.directOk hs.directOk
  refine ⟨?_, fun e he => ?_, hdirect, fun hl => ?_, ?_, hheld, ?_⟩
  · rw [h.flight, h.link, h.sent]
    exact hflight
  · obtain ⟨e', he', hs'⟩ := h.step e he
    rw [hs']
    exact hseg e' he'
  · have hnone := hservice (h.link ▸ hl)
    cases he : t.exec with
    | none => rfl
    | some e =>
      obtain ⟨e', he', -⟩ := h.step e he
      simp [hnone] at he'
  · rw [h.disableWaiting, h.link]
    exact hwait
  · rw [h.link, h.faultAnnounced]
    exact hfault

/-! ### States of the link -/

/-- With no attempt in flight the link is out of every transaction. -/
theorem State.linkOk_of_calm {s : State} (hd : s.DirectOk) (hc : s.Calm) (ht : s.link.transacts = false)
    (hs : s.link.inService = false → s.exec = none)
    (hw : s.disableWaiting = true → s.link ≠ .off ∧ s.link ≠ .idle ∧ s.link ≠ .faulted)
    (hf : s.link = .faulted → s.faultAnnounced = true) : s.LinkOk := by
  have hany : s.exec.any (·.inFlight) = false := by
    cases he : s.exec with
    | none => rfl
    | some e => exact (hc e he).1
  have hsent : s.exec.any (fun e => e.inFlight && e.step.isBroadcast) = false := by
    cases he : s.exec with
    | none => rfl
    | some e => simp [(hc e he).1]
  exact ⟨by simp [hany, ht, hsent], fun e he => (hc e he).2, hd.direct, hs, hw, hd.held, hf⟩

/-- With an attempt in flight the link is in a transaction, or in the gap of a BROADCAST. -/
theorem State.linkOk_of_attempt {s : State} {e : Execution} (hd : s.DirectOk) (he : s.exec = some e)
    (hf : e.inFlight = true) (hseg : e.step.segment.isSome = true)
    (ht : s.link.transacts = true ∨ (s.link = .gap ∧ e.step.isBroadcast = true)) : s.LinkOk := by
  have hlink : s.link.inService = true ∧ s.link ≠ .off ∧ s.link ≠ .idle ∧ s.link ≠ .faulted := by
    obtain ht | ⟨hg, -⟩ := ht
    · cases hl : s.link <;> simp_all [LinkState.transacts, LinkState.inService]
    · simp [hg, LinkState.inService]
  refine ⟨?_, fun e' he' => ?_, hd.direct, fun hs => by simp [hlink.1] at hs, fun _ => hlink.2, hd.held,
    fun hl => absurd hl hlink.2.2.2⟩
  · simp [he, hf, ht]
  · obtain rfl : e = e' := by simpa [he] using he'
    exact hseg

/-- In an IDLE link's service, or in a gap, nothing is in flight but a BROADCAST. -/
theorem State.LinkOk.calm {s : State} (hs : s.LinkOk) (ht : s.link.transacts = false) (hg : s.link ≠ .gap) : s.Calm := by
  obtain ⟨hflight, hseg, -⟩ := hs
  intro e he
  have hany : ¬ s.exec.any (·.inFlight) = true := by
    rw [hflight]
    simp [ht, hg]
  have he : s.exec = some e := he
  exact ⟨by simpa [he] using hany, hseg e he⟩

/-- In a transaction an attempt is in flight. -/
theorem State.LinkOk.attempt {s : State} (hs : s.LinkOk) (ht : s.link.transacts = true) {e : Execution}
    (he : s.exec = some e) : e.inFlight = true ∧ e.step.segment.isSome = true := by
  obtain ⟨hflight, hseg, -⟩ := hs
  exact ⟨by simpa [he] using hflight.mpr (.inl ht), hseg e he⟩

/-! ### Ends of executions -/

theorem State.releaseLane_exec_of_none {s : State} (l : LaneId) (hs : s.exec = none) : (s.releaseLane l).exec = none := by
  obtain ⟨e, he, -⟩ | ⟨-, e⟩ := s.releaseLane_cases l
  · simp [hs] at he
  · rw [e, hs]

theorem State.leaveStopping_exec (s : State) (l : LaneId) : (s.leaveStopping l).exec = (s.releaseLane l).exec := by
  have hstop : (s.stopAtOnce l).exec = s.exec := (State.stopAtOnce_acts s l).exec
  rw [State.leaveStopping, (State.readyHeld_acts _ _ rfl).exec]
  unfold State.releaseLane
  rw [hstop]
  cases s.exec with
  | none => exact hstop
  | some e => dsimp only; split <;> simp_all

theorem State.leaveStopping_exec_of_none {s : State} (l : LaneId) (hs : s.exec = none) :
    (s.leaveStopping l).exec = none := by
  rw [State.leaveStopping_exec, State.releaseLane_exec_of_none l hs]

/-- A grant withdrawn leaves the executor without a step (R65). -/
theorem State.withdraw_exec (s : State) : s.withdraw.exec = none := by
  obtain ⟨he, e⟩ | ⟨x, -, ⟨l, -, -, e⟩ | ⟨l, -, -, e⟩ | ⟨h, -, e⟩ | ⟨-, e⟩ | ⟨-, e⟩⟩ := s.withdraw_cases <;> rw [e]
  · exact he
  · exact State.leaveStopping_exec_of_none l (State.settleToggle_acts _ _ _).exec
  · rfl
  · exact (State.keepAtHead_acts _ h x none).exec
  · exact (State.settleToggle_acts _ _ _).exec

theorem State.withdraw_sameLink (s : State) : SameLink s s.withdraw := (State.withdraw_acts (reach := 0) s).sameLink

/-- A step end begins with the executor holding no step (R111). -/
theorem State.stepEnd_acts_of_none (s : State) (e : Execution) (o : StepOutcome) (data : List Byte) :
    Acts 1 { s with exec := none } (s.stepEnd e o data) := State.stepEnd_acts (reach := 0) { s with exec := none } e o data

theorem State.calm_of_none {s : State} (hs : s.exec = none) : s.Calm := by simp [State.Calm, hs]

/-- What a step end leaves: the link as it was, and an executor that is calm. -/
theorem State.stepEnd_calm {s : State} (e : Execution) (o : StepOutcome) (data : List Byte) (hd : s.DirectOk) :
    SameLink s (s.stepEnd e o data) ∧ (s.stepEnd e o data).Calm := by
  have hdrop : SameLink s { s with exec := none } := .of_eq rfl rfl rfl rfl rfl
  have hacts := s.stepEnd_acts_of_none e o data
  exact ⟨hdrop.trans hacts.sameLink, hacts.calm (hdrop.directOk hd) (State.calm_of_none rfl)⟩

theorem State.retryWait_exec (s : State) (e : Execution) : (s.retryWait e).exec = none := by
  unfold State.retryWait
  dsimp only
  split
  · rfl
  · exact (State.keepAtHead_acts _ _ _ _).exec
  · rfl

theorem State.countResult_calm {s : State} (e : Execution) (r : AttemptResult) (silenced : Bool) (hd : s.DirectOk) :
    SameLink s (s.countResult e r silenced) ∧ (s.countResult e r silenced).Calm := by
  obtain ⟨-, h⟩ | ⟨-, -, h⟩ | ⟨-, -, -, h⟩ | ⟨-, -, -, -, h⟩ := s.countResult_cases e r silenced <;> rw [h]
  · exact State.stepEnd_calm _ _ _ hd
  · exact State.stepEnd_calm _ _ _ hd
  · exact State.stepEnd_calm _ _ _ hd
  · exact ⟨(State.retryWait_acts (reach := 0) s _).sameLink, State.calm_of_none (State.retryWait_exec s _)⟩

/-! ### OFF, FAULTED and the line reset -/

theorem Port.released_not_waiting (p : Port) (k : HeldKind) (r : Reply) : (p.released k r).waitsFor ≠ some k := by
  unfold Port.released Port.waitsFor
  cases hp : p.state with
  | busy q =>
    by_cases hq : q.kind = k
    · simp [hq, Port.answered]
    · simp [hq, hp]
  | _ => simp [hp]

theorem State.goOff_eq (s : State) :
    s.goOff = { s.withdraw with link := .off, phaseLeft := 0, watchLeft := 0, disableWaiting := false }.readyHeld
      .linkOff (.link .off) := rfl

/-- The link goes OFF with no step in execution and no LINK_DISABLE waiting (R91). -/
theorem State.goOff_linkOk {s : State} (hd : s.DirectOk) : s.goOff.LinkOk := by
  rw [State.goOff_eq]
  refine State.linkOk_of_calm ⟨?_, fun h hh => ?_⟩ (State.calm_of_none s.withdraw_exec) rfl (fun _ => s.withdraw_exec)
    (fun hw => ?_) (fun hl => ?_)
  · exact (s.withdraw_sameLink.directOk hd).direct
  · rw [State.readyHeld_port] at hh
    exact absurd hh (Port.released_not_waiting _ _ _)
  · rw [State.readyHeld_eq] at hw
    simp at hw
  · rw [State.readyHeld_eq] at hl
    simp at hl

theorem State.announceFault_eq (s : State) :
    s.announceFault = { s with mail := s.announceFault.mail, faultAnnounced := true } := by
  unfold State.announceFault
  split
  next h => rw [← h]
  · rw [State.queueAll_eq]

/-- FAULTED has no step in execution and its fault announced (R94, R95). -/
theorem State.enterFaulted_linkOk {s : State} (hd : s.DirectOk) : s.enterFaulted.LinkOk := by
  have hdirect : s.faulted.DirectOk := by
    refine ⟨?_, ?_⟩
    · rw [State.faulted, State.announceFault_eq]
      exact (s.withdraw_sameLink.directOk hd).direct
    · rw [State.faulted, State.announceFault_eq]
      exact (s.withdraw_sameLink.directOk hd).held
  have hnone : s.faulted.exec = none := by
    rw [State.faulted, State.announceFault_eq]
    exact s.withdraw_exec
  have hann : s.faulted.faultAnnounced = true := by rw [State.faulted, State.announceFault_eq]
  rw [State.enterFaulted_eq]
  split
  · exact State.goOff_linkOk hdirect
  next hw =>
    exact State.linkOk_of_calm hdirect (State.calm_of_none hnone) rfl (fun _ => hnone) (fun h => absurd h hw)
      fun _ => hann

/-- The line reset has no step in execution (R92). -/
theorem State.resetSegment_linkOk {s : State} (g : SegmentId) (hd : s.DirectOk) (hs : s.exec = none) :
    (s.resetSegment g).LinkOk :=
  State.linkOk_of_calm ⟨hd.direct, hd.held⟩ (State.calm_of_none hs) rfl (fun _ => hs)
    (fun _ => ⟨by simp [State.resetSegment], by simp [State.resetSegment], by simp [State.resetSegment]⟩)
    fun hl => by simp [State.resetSegment] at hl

theorem State.beginLineReset_linkOk {s : State} (hd : s.DirectOk) : s.beginLineReset.LinkOk := by
  obtain ⟨-, h⟩ | ⟨-, h⟩ := s.beginLineReset_cases <;> rw [h]
  · exact State.enterFaulted_linkOk hd
  · exact State.resetSegment_linkOk 0 (s.withdraw_sameLink.directOk hd) s.withdraw_exec

theorem State.announceRecovery_eq (s : State) :
    s.announceRecovery = { s with mail := s.announceRecovery.mail, faultAnnounced := false } := by
  unfold State.announceRecovery
  split
  · rw [State.queueAll_eq]
  next h =>
    have h : s.faultAnnounced = false := by simpa using h
    rw [← h]

theorem State.completeLineReset_linkOk {s : State} (hd : s.DirectOk) (hs : s.exec = none) : s.completeLineReset.LinkOk := by
  have hdirect : s.recovered.DirectOk := by
    rw [State.recovered, State.announceRecovery_eq]
    exact ⟨hd.direct, hd.held⟩
  have hnone : s.recovered.exec = none := by
    rw [State.recovered, State.announceRecovery_eq]
    exact hs
  have hidle : s.recovered.link = .idle := by rw [State.recovered, State.announceRecovery_eq]
  rw [State.completeLineReset_eq]
  split
  · exact State.goOff_linkOk hdirect
  next hw =>
    exact State.linkOk_of_calm hdirect (State.calm_of_none hnone) (by rw [hidle]; rfl) (fun _ => hnone)
      (fun h => absurd h hw) (by simp [hidle])

/-! ### Attempts -/

theorem State.frameStart_linkOk {s t : State} {e : Execution} (hd : s.DirectOk) (hseg : e.step.segment.isSome = true)
    (h : s.frameStart e = some t) : t.LinkOk := by
  obtain ⟨-, hn⟩ | ⟨data, -, ⟨-, hs⟩ | ⟨-, hs⟩⟩ := s.frameStart_cases e
  · simp [hn] at h
  · obtain rfl := Option.some.inj (hs.symm.trans h)
    exact State.enterFaulted_linkOk ⟨hd.direct, hd.held⟩
  · obtain rfl := Option.some.inj (hs.symm.trans h)
    exact State.linkOk_of_attempt ⟨hd.direct, hd.held⟩ rfl rfl hseg (.inl rfl)

/-- An IDLE link with a calm executor and no LINK_DISABLE waiting. -/
theorem State.linkOk_of_idle {s : State} (hd : s.DirectOk) (hc : s.Calm) (hl : s.link = .idle)
    (hw : s.disableWaiting = false) : s.LinkOk :=
  State.linkOk_of_calm hd hc (by rw [hl]; rfl) (by simp [hl, LinkState.inService]) (by simp [hw]) (by simp [hl])

theorem State.LinkOk.not_waiting {s : State} (hs : s.LinkOk) (hl : s.link = .idle) : s.disableWaiting = false := by
  obtain ⟨-, -, -, -, hwait, -⟩ := hs
  by_contra hw
  exact (hwait (by simpa using hw)).2.1 hl

/-- The executor on the free line: steps that end at once, then an attempt, a fault, or nothing to do. -/
theorem State.drive_linkOk (k : Nat) : ∀ {s : State}, s.LinkOk → (State.drive k s).LinkOk := by
  induction k with
  | zero => exact fun hs => hs
  | succ k ih =>
    intro s hs
    have hd := hs.directOk
    obtain h | ⟨e, o, -, hl, -, h⟩ | ⟨e, g, he, hl, -, -, -, h⟩ | ⟨e, t, he, hl, -, -, ht, h⟩ := s.drive_succ_cases k <;>
      rw [h]
    · exact hs
    · obtain ⟨hsame, hcalm⟩ := State.stepEnd_calm e o [] hd
      exact ih (State.linkOk_of_idle (hsame.directOk hd) hcalm (hsame.link.trans hl)
        (hsame.disableWaiting.trans (hs.not_waiting hl)))
    · exact State.linkOk_of_attempt ⟨hd.direct, hd.held⟩ rfl rfl (hs.2.1 e he) (.inl rfl)
    · exact State.frameStart_linkOk hd (hs.2.1 e he) ht

theorem State.lineFree_linkOk {s : State} (hd : s.DirectOk) (hc : s.Calm) : s.lineFree.LinkOk := by
  unfold State.lineFree
  split
  · exact State.goOff_linkOk hd
  next hw =>
    refine State.drive_linkOk _ (State.linkOk_of_idle ⟨hd.direct, hd.held⟩ hc rfl ?_)
    simpa using hw

/-- A step that addresses a segment and no station is a BROADCAST. -/
theorem Step.isBroadcast_of_no_station {st : Step} (hn : st.station = none) (hseg : st.segment.isSome = true) :
    st.isBroadcast = true := by
  cases st <;> simp_all [Step.station, Step.segment, Step.isBroadcast]

theorem State.attemptResult_linkOk {s : State} {e : Execution} (r : AttemptResult) (hs : s.LinkOk)
    (ht : s.link.transacts = true) (he : s.exec = some e) : (s.attemptResult e r).LinkOk := by
  obtain ⟨hf, hseg⟩ := hs.attempt ht he
  have hd : s.enterGap.DirectOk := ⟨hs.directOk.direct, hs.directOk.held⟩
  unfold State.attemptResult
  dsimp only
  split
  next g n _ =>
    have hcount : SameLink s.enterGap (s.enterGap.updateStation g n r.valid) :=
      (State.updateStation_acts (reach := 1) _ g n r.valid).sameLink
    obtain ⟨hsame, hcalm⟩ := State.countResult_calm e r
      (!(s.enterGap.station g n).silent && ((s.enterGap.updateStation g n r.valid).station g n).silent) (hcount.directOk hd)
    have hall := hcount.trans hsame
    have hgap : ((s.enterGap.updateStation g n r.valid).countResult e r
        (!(s.enterGap.station g n).silent && ((s.enterGap.updateStation g n r.valid).station g n).silent)).link = .gap :=
      hall.link
    exact State.linkOk_of_calm (hall.directOk hd) hcalm (by rw [hgap]; rfl) (by simp [hgap, LinkState.inService])
      (fun _ => by simp [hgap]) (by simp [hgap])
  next hn => exact State.linkOk_of_attempt hd he hf hseg (.inr ⟨rfl, Step.isBroadcast_of_no_station hn hseg⟩)

theorem State.endBroadcast_calm {s : State} (hs : s.LinkOk) : s.endBroadcast.DirectOk ∧ s.endBroadcast.Calm := by
  have hd := hs.directOk
  unfold State.endBroadcast
  split
  next e he =>
    split
    · obtain ⟨hsame, hcalm⟩ := State.stepEnd_calm (s := s) { e with attempts := 1 } .done [] hd
      exact ⟨hsame.directOk hd, hcalm⟩
    next hf =>
      refine ⟨hd, fun e' he' => ?_⟩
      obtain rfl : e = e' := by simpa [he] using he'
      exact ⟨by simpa using hf, hs.2.1 e he⟩
  next he => exact ⟨hd, State.calm_of_none he⟩


/-! ### The line's events -/

theorem execGrant_linkOk {s t : State} {fda : Level} (hs : s.LinkOk) (he : execGrant fda s = .next t) : t.LinkOk := by
  unfold execGrant at he
  split at he
  next c _ =>
    split at he <;> obtain rfl := Host.Outcome.next.inj he
    next hg =>
      obtain ⟨⟨hl, hnone⟩, -⟩ : (s.link = .idle ∧ s.exec = none) ∧ s.bestCandidate.isSome = true := by
        simpa [State.grantPoint] using hg
      have hd : State.DirectOk { s with fda := fda } := ⟨hs.directOk.direct, hs.directOk.held⟩
      have hacts := State.giveGrant_acts (reach := 0) { s with fda := fda } c
      have hsame := hacts.sameLink
      exact State.drive_linkOk _ (State.linkOk_of_idle (hsame.directOk hd) (hacts.calm hd (State.calm_of_none hnone))
        (hsame.link.trans hl) (hsame.disableWaiting.trans (hs.not_waiting hl)))
    · exact hs
  · obtain rfl := Host.Outcome.next.inj he
    exact hs

theorem execSegmentGuardEnd_linkOk {s t : State} {fda : Level} (hs : s.LinkOk)
    (he : execSegmentGuardEnd fda s = .next t) : t.LinkOk := by
  have hd : State.DirectOk { s with fda := fda } := ⟨hs.directOk.direct, hs.directOk.held⟩
  unfold execSegmentGuardEnd at he
  split at he
  next e _ hx =>
    dsimp only at he
    split at he <;> obtain rfl := Host.Outcome.next.inj he
    next ht => exact State.frameStart_linkOk hd (hs.2.1 e hx) ht
    · obtain ⟨hsame, hcalm⟩ := State.stepEnd_calm e .sourceEmpty [] hd
      exact State.lineFree_linkOk (hsame.directOk hd) hcalm
  · obtain rfl := Host.Outcome.next.inj he
    exact hs

theorem execFrameFullySent_linkOk {s t : State} (hs : s.LinkOk) (he : execFrameFullySent s = .next t) : t.LinkOk := by
  have hd := hs.directOk
  unfold execFrameFullySent at he
  split at he
  next e hl hx =>
    obtain ⟨hf, hseg⟩ := hs.attempt (by rw [hl]; rfl) hx
    dsimp only at he
    split at he <;> obtain rfl := Host.Outcome.next.inj he
    next hb =>
      exact State.linkOk_of_attempt (e := { e with fullySent := true }) ⟨hd.direct, hd.held⟩ rfl hf hseg (.inr ⟨rfl, hb⟩)
    · exact State.linkOk_of_attempt (e := { e with fullySent := true }) ⟨hd.direct, hd.held⟩ rfl hf hseg (.inl rfl)
  · obtain rfl := Host.Outcome.next.inj he
    exact hs

/-- The link moves on within a transaction. -/
theorem State.LinkOk.transact {s t : State} (hs : s.LinkOk) (ht : s.link.transacts = true) (hl : t.link.transacts = true)
    (hx : t.exec = s.exec) (hd : t.DirectOk) : t.LinkOk := by
  obtain ⟨hflight, -⟩ := id hs
  cases he : s.exec with
  | none => simp [he, ht] at hflight
  | some e =>
    obtain ⟨hf, hseg⟩ := hs.attempt ht he
    exact State.linkOk_of_attempt hd (hx.trans he) hf hseg (.inl hl)

theorem execReplyStartMark_linkOk {s t : State} (hs : s.LinkOk) (he : execReplyStartMark s = .next t) : t.LinkOk := by
  have hd := hs.directOk
  unfold execReplyStartMark at he
  split at he <;> obtain rfl := Host.Outcome.next.inj he
  next hl => exact hs.transact (by rw [hl]; rfl) rfl rfl ⟨hd.direct, hd.held⟩
  next hl => exact hs.transact (by rw [hl]; rfl) rfl rfl ⟨hd.direct, hd.held⟩
  · exact hs

theorem execReplyTimeout_linkOk {s t : State} (hs : s.LinkOk) (he : execReplyTimeout s = .next t) : t.LinkOk := by
  unfold execReplyTimeout at he
  split at he <;> obtain rfl := Host.Outcome.next.inj he
  next hl hx => exact State.attemptResult_linkOk _ hs (by rw [hl]; rfl) hx
  · exact hs

theorem LinkState.transacts_of_endsReply {l : LinkState} {w : ReplyWire} (h : l.endsReply w = true) : l.transacts = true := by
  unfold LinkState.endsReply at h
  split at h
  · rfl
  · rfl
  · simp at h

theorem execReplyEnd_linkOk {s t : State} {reply : ReplyWire} (hs : s.LinkOk) (he : execReplyEnd reply s = .next t) :
    t.LinkOk := by
  unfold execReplyEnd at he
  split at he
  next hx =>
    split at he <;> obtain rfl := Host.Outcome.next.inj he
    next hl => exact State.attemptResult_linkOk _ hs (LinkState.transacts_of_endsReply hl) hx
    · exact hs
  · obtain rfl := Host.Outcome.next.inj he
    exact hs

theorem execGapEnd_linkOk {s t : State} {fda : Level} (hs : s.LinkOk) (he : execGapEnd fda s = .next t) : t.LinkOk := by
  unfold execGapEnd at he
  split at he <;> obtain rfl := Host.Outcome.next.inj he
  · obtain ⟨hd, hc⟩ := State.endBroadcast_calm (s := { s with fda := fda }) hs
    exact State.lineFree_linkOk hd hc
  · exact hs

theorem execLineFault_linkOk {s t : State} (hs : s.LinkOk) (he : execLineFault s = .next t) : t.LinkOk := by
  have faulty : { s with fda := .low }.enterFaulted.LinkOk :=
    State.enterFaulted_linkOk ⟨hs.directOk.direct, hs.directOk.held⟩
  unfold execLineFault at he
  split at he <;> obtain rfl := Host.Outcome.next.inj he
  · exact faulty
  · exact faulty
  · exact faulty
  · exact faulty
  · exact hs

/-- Out of service no step is in execution. -/
theorem State.LinkOk.exec_of_out {s : State} (hs : s.LinkOk) (hl : s.link.inService = false) : s.exec = none := hs.2.2.2.1 hl

theorem execRecoveryWatchRestart_linkOk {s t : State} (hs : s.LinkOk) (he : execRecoveryWatchRestart s = .next t) :
    t.LinkOk := by
  unfold execRecoveryWatchRestart at he
  split at he <;> obtain rfl := Host.Outcome.next.inj he
  · exact hs
  · exact hs

theorem execRecoveryWatchExpiry_linkOk {s t : State} (hs : s.LinkOk) (he : execRecoveryWatchExpiry s = .next t) :
    t.LinkOk := by
  unfold execRecoveryWatchExpiry at he
  split at he
  next hl =>
    split at he <;> obtain rfl := Host.Outcome.next.inj he
    · exact State.resetSegment_linkOk 0 ⟨hs.directOk.direct, hs.directOk.held⟩ (hs.exec_of_out (by rw [hl]; rfl))
    · exact hs
  · obtain rfl := Host.Outcome.next.inj he
    exact hs

/-- The line reset moves on with no step in execution. -/
theorem State.LinkOk.resetPhase {s t : State} (hs : s.LinkOk) {p : ResetPhase} (hl : s.link.inService = false)
    (ht : t.link = .lineReset p) (hx : t.exec = s.exec) (hd : t.DirectOk) : t.LinkOk := by
  have hnone : t.exec = none := hx.trans (hs.exec_of_out hl)
  exact State.linkOk_of_calm hd (State.calm_of_none hnone) (by rw [ht]; rfl) (fun _ => hnone) (fun _ => by simp [ht])
    (by simp [ht])

theorem execLineResetGuardEnd_linkOk {s t : State} {fda : Level} (hs : s.LinkOk)
    (he : execLineResetGuardEnd fda s = .next t) : t.LinkOk := by
  have hd := hs.directOk
  unfold execLineResetGuardEnd at he
  split at he
  next hl =>
    dsimp only at he
    split at he <;> obtain rfl := Host.Outcome.next.inj he
    · exact State.enterFaulted_linkOk ⟨hd.direct, hd.held⟩
    · exact hs.resetPhase (by rw [hl]; rfl) rfl rfl ⟨hd.direct, hd.held⟩
  · obtain rfl := Host.Outcome.next.inj he
    exact hs

theorem execLineResetDriveEnd_linkOk {s t : State} (hs : s.LinkOk) (he : execLineResetDriveEnd s = .next t) :
    t.LinkOk := by
  unfold execLineResetDriveEnd at he
  split at he <;> obtain rfl := Host.Outcome.next.inj he
  next hl => exact hs.resetPhase (by rw [hl]; rfl) rfl rfl ⟨hs.directOk.direct, hs.directOk.held⟩
  · exact hs

theorem execLineResetHoldEnd_linkOk {s t : State} {fda : Level} (hs : s.LinkOk)
    (he : execLineResetHoldEnd fda s = .next t) : t.LinkOk := by
  have hd : State.DirectOk { s with fda := fda } := ⟨hs.directOk.direct, hs.directOk.held⟩
  unfold execLineResetHoldEnd at he
  split at he
  next hl =>
    have hnone : s.exec = none := hs.exec_of_out (by rw [hl]; rfl)
    dsimp only at he
    split at he
    · obtain rfl := Host.Outcome.next.inj he
      exact State.enterFaulted_linkOk hd
    · split at he <;> obtain rfl := Host.Outcome.next.inj he
      · exact State.resetSegment_linkOk _ hd hnone
      · exact State.completeLineReset_linkOk hd hnone
  · obtain rfl := Host.Outcome.next.inj he
    exact hs

theorem exec_linkOk_of_occurs {i : Instr} (hi : i.occurs = true) {s t : State} (he : exec i s = .next t) (hs : s.LinkOk) :
    t.LinkOk := by
  cases i
  case trgSample => exact (execTrgSample_acts he).steady.linkOk hs
  case timerExpiry => exact (execTimerExpiry_acts he).steady.linkOk hs
  case chainTrigger => exact (execChainTrigger_acts he).steady.linkOk hs
  case retryExpiry => exact (execRetryExpiry_acts he).steady.linkOk hs
  case probeTimerExpiry => exact (execProbeTimerExpiry_acts he).steady.linkOk hs
  case leaseExpiry => exact (execLeaseExpiry_acts he).steady.linkOk hs
  case grant => exact execGrant_linkOk hs he
  case segmentGuardEnd => exact execSegmentGuardEnd_linkOk hs he
  case frameFullySent => exact execFrameFullySent_linkOk hs he
  case replyTimeout => exact execReplyTimeout_linkOk hs he
  case replyEnd => exact execReplyEnd_linkOk hs he
  case gapEnd => exact execGapEnd_linkOk hs he
  case lineFault => exact execLineFault_linkOk hs he
  case recoveryWatchRestart => exact execRecoveryWatchRestart_linkOk hs he
  case recoveryWatchExpiry => exact execRecoveryWatchExpiry_linkOk hs he
  case lineResetGuardEnd => exact execLineResetGuardEnd_linkOk hs he
  case lineResetDriveEnd => exact execLineResetDriveEnd_linkOk hs he
  case lineResetHoldEnd => exact execLineResetHoldEnd_linkOk hs he
  case replyStartMark => exact execReplyStartMark_linkOk hs he
  all_goals exact absurd hi (by simp [Instr.occurs])

/-! ### Ports, requests and resets -/

theorem State.takeBank_steady (s : State) (l : LaneId) : Steady s (s.takeBank l) := (Act.takeBank l).acts.steady

/-- A port given a state in which it waits for nothing that it did not wait for. -/
theorem Steady.setPort (s : State) (h : HostId) {p : Port} (hp : p.waitsFor = (s.port h).waitsFor ∨ p.waitsFor = none) :
    Steady s (s.setPort h p) := by
  refine .of_exec ⟨rfl, rfl, rfl, fun k => ?_, fun _ r hr => ⟨r, hr, rfl⟩⟩ rfl
  by_cases e : h = k
  · subst e; simpa using hp
  · simp [e]

theorem State.releasePin_steady (s : State) (h : HostId) : Steady s (s.releasePin h) := by
  obtain ⟨-, e⟩ | ⟨l, b, -, e⟩ := s.releasePin_cases h <;> rw [e]
  · exact .refl s
  · have unpinned : Steady s (s.setPort h { s.port h with pin := none }) := .setPort s h (.inl rfl)
    split
    · exact unpinned.trans (State.takeBank_steady _ l)
    · exact unpinned

theorem PortAct.steady {s t : State} (h : PortAct s t) : Steady s t := by
  cases h with
  | leave h r frame sticky hr => exact (Steady.setPort s h (.inr rfl)).trans (State.releasePin_steady _ h)
  | answer h st tag r hr hi hp => exact .setPort s h (.inr rfl)
  | port h p hst hp hc => exact .setPort s h (.inl (by rw [Port.waitsFor, Port.waitsFor, hst]))
  | fetched h count lost hi => exact .of_exec (.of_eq rfl rfl rfl rfl rfl) rfl

/-- A lane that is stopped lets go of the executor only with no attempt in flight (R36). -/
theorem State.stopLane_steady (s : State) (l : LaneId) : Steady s (s.stopLane l) := by
  have hsame : SameLink s (s.stopLane l) := (State.stopLane_acts (reach := 0) s l).sameLink
  obtain ⟨-, h⟩ | ⟨-, h⟩ | ⟨-, h⟩ | ⟨-, -, h⟩ | ⟨-, hf, h⟩ | ⟨-, h⟩ := s.stopLane_cases l
  · rw [h]; exact .refl s
  · exact .of_exec hsame (by rw [h]; rfl)
  · exact .of_exec hsame (by rw [h]; rfl)
  · exact .of_exec hsame (by rw [h]; rfl)
  · have hx : (s.settleStopped l).exec = s.exec := (State.settleStopped_acts s l).exec
    have hrel : (s.stopLane l).exec = ((s.settleStopped l).releaseLane l).exec := by rw [h, State.leaveStopping_exec]
    obtain ⟨e, he, hh, e'⟩ | ⟨-, e'⟩ := (s.settleStopped l).releaseLane_cases l
    · refine .of_drop hsame (by rw [hrel, e']) fun x hx' => ?_
      obtain rfl : e = x := by simpa [← hx, he] using hx'
      have hs : s.exec = some e := hx ▸ he
      simpa [State.laneInFlight, hs, hh] using hf
    · exact .of_exec hsame (by rw [hrel, e', hx])
  · exact .of_exec hsame (by rw [h]; exact (State.stopAtOnce_acts s l).exec)

theorem directStep_segment {raw : RawStep} {st : Step} (h : directStep raw = some st) : st.segment.isSome = true := by
  unfold directStep at h
  split at h
  · obtain rfl := Option.some.inj h; rfl
  · obtain rfl := Option.some.inj h; rfl
  · obtain rfl := Option.some.inj h; rfl
  · simp at h

theorem Edit.linkOk {h : HostId} {s t : State} (he : Edit h s t) (hs : s.LinkOk) : t.LinkOk := by
  have hd := hs.directOk
  cases he with
  | arrive l => exact (s.arrive_acts l).steady.linkOk hs
  | stop l => exact (s.stopLane_steady l).linkOk hs
  | lineReset fda => exact State.beginLineReset_linkOk (s := { s with fda := fda }) ⟨hd.direct, hd.held⟩
  | goOff => exact State.goOff_linkOk hd
  | waitOff hl =>
    obtain ⟨hflight, hseg, hdirect, hservice, -, -, hfault⟩ := hs
    exact ⟨hflight, hseg, hdirect, hservice, fun _ => hl, fun _ _ => rfl, hfault⟩
  | submit raw st limit interval tag hst =>
    obtain ⟨hflight, hseg, hdirect, hservice, hwait, hheld, hfault⟩ := hs
    refine ⟨hflight, hseg, fun k r hr => ?_, hservice, hwait, hheld, hfault⟩
    by_cases e : h = k
    · subst e
      rw [State.directQueue_setDirectQueue_self, List.mem_append, List.mem_singleton] at hr
      obtain hr | rfl := hr
      · exact hdirect h r hr
      · exact directStep_segment hst
    · exact hdirect k r (by simpa [e] using hr)
  | settings entries r =>
    unfold State.writeSettings
    dsimp only
    split
    · exact hs
    · exact hs
  | _ => exact hs

theorem State.emptyDirect_steady (s : State) (h : HostId) : Steady s (s.emptyDirect h) := by
  have emptied : Steady s (s.setDirectQueue h []) :=
    (Act.queue (reach := 0) h [] (Nat.zero_le _) (by simp)).acts.steady
  have settled (u : State) (st : Step) (sent : Bool) : Steady u (u.settleToggle st sent) :=
    (State.settleToggle_acts u st sent).steady
  unfold State.emptyDirect
  dsimp only
  split
  · exact emptied
  · split
    next e he =>
      have he : s.exec = some e := he
      split
      · split
        · refine emptied.trans ⟨.of_eq rfl rfl rfl rfl rfl, ?_, ?_, ?_⟩
          · simp [he]
          · simp [he]
          · simp [he]
        next hf =>
          refine (emptied.trans (.of_drop (t := { s.setDirectQueue h [] with exec := none })
            (.of_eq rfl rfl rfl rfl rfl) rfl ?_)).trans (settled _ _ _)
          intro x hx
          obtain rfl : e = x := by simpa [he] using hx
          simpa using hf
      · exact emptied.trans (settled _ _ _)
    · exact emptied.trans (settled _ _ _)

theorem State.orphanIfOwned_steady (s : State) (h : HostId) (l : LaneId) : Steady s (s.orphanIfOwned h l) := by
  unfold State.orphanIfOwned
  split
  · have hdisown : Steady s (s.disown h l) := .of_exec (.of_eq rfl rfl rfl rfl rfl) rfl
    exact hdisown.trans ((State.stopLane_steady _ l).trans (State.queueAll_acts _ _).steady)
  · exact .refl s

theorem State.eachLane_steady {f : LaneId → State → State} (hf : ∀ l u, Steady u (f l u)) (s : State) :
    Steady s (eachLane f s) :=
  State.eachLane_keeps (P := Steady s) (fun l _ hu => hu.trans (hf l _)) (.refl s)

/-- A port reset leaves the link as it was, and an attempt in flight where one was (R78, R170). -/
theorem State.resetPort_steady (s : State) (h : HostId) : Steady s (s.resetPort h) := by
  have closed : Steady s (s.closePort h) := (s.releasePin_steady h).trans (.setPort _ h (.inr rfl))
  have cleared : Steady (s.closePort h) ((s.closePort h).setMailbox h .fresh) :=
    .of_exec (.of_eq rfl rfl rfl rfl rfl) rfl
  have left (u : State) : Steady u (u.unsubscribeAll h) := by
    unfold State.unsubscribeAll
    refine State.eachLane_steady (fun l v => ?_) u
    exact .of_exec (.of_eq rfl rfl rfl rfl rfl) rfl
  rw [State.resetPort_eq]
  exact (closed.trans (cleared.trans ((left _).trans ((State.emptyDirect_steady _ h).trans
    (State.yieldLease_acts _ h).steady)))).trans
    (State.eachLane_steady (fun l u => u.orphanIfOwned_steady h l) _)

theorem State.reset_linkOk : State.reset.LinkOk := by
  refine State.linkOk_of_calm ⟨fun h r hr => ?_, fun h hh => ?_⟩ (State.calm_of_none rfl) rfl (fun _ => rfl) ?_ ?_
  · simp [State.directQueue, State.reset] at hr
  · simp [State.port, State.reset, Port.fresh, Port.waitsFor] at hh
  · simp [State.reset]
  · simp [State.reset]

theorem keptByCommands_linkOk : KeptByCommands State.LinkOk where
  port _ _ h hs := h.steady.linkOk hs
  edit _ _ _ _ he hs := he.linkOk hs
  hold h s k tag _ hf hs := by
    have ended : Steady s (s.discardUnread h) :=
      PortActs.keeps (P := Steady s) (fun _ _ huv hu => hu.trans huv.steady) (s.discardUnread_acts h) (.refl s)
    obtain ⟨hflight, hseg, hdirect, hservice, hwait, hheld, hfault⟩ := ended.linkOk hs
    refine ⟨hflight, hseg, hdirect, hservice, hwait, fun j hj => ?_, hfault⟩
    by_cases e : h = j
    · subst e
      cases k with
      | laneStop l => simp [State.hold, Port.waitsFor] at hj
      | linkOff => exact ended.disableWaiting.trans hf
    · exact hheld j (by simpa [State.hold, e] using hj)
  event _ _ _ hi he hs := exec_linkOk_of_occurs hi he hs
  powerOn s t he hs := by
    obtain rfl := Host.Outcome.next.inj he
    obtain ⟨hflight, hseg, hdirect, hservice, hwait, -, hfault⟩ := State.reset_linkOk
    refine ⟨hflight, hseg, hdirect, hservice, hwait, fun h hh => ?_, hfault⟩
    simp [State.port, Port.fresh, Port.waitsFor] at hh
  powerOnRelease s t he hs := by
    unfold execPowerOnRelease at he
    split at he <;> obtain rfl := Host.Outcome.next.inj he
    · obtain ⟨hflight, hseg, hdirect, hservice, hwait, hheld, hfault⟩ := hs
      refine ⟨hflight, hseg, hdirect, hservice, hwait, fun h hh => hheld h ?_, hfault⟩
      simp only [State.port, look_map] at hh
      split at hh
      · simp [Port.waitsFor] at hh
      · exact hh
    · exact hs
  portReset h s hs := (s.resetPort_steady h).linkOk hs
  portResetRelease h s t he hs := by
    simp only [execPortResetRelease] at he
    split at he <;> obtain rfl := Host.Outcome.next.inj he
    · refine (Steady.setPort s h (.inr ?_)).linkOk hs
      cases s.porLow <;> rfl
    · exact hs

theorem tickHead_step {q : List DirectRequest} {r : DirectRequest} (hr : r ∈ tickHead q) : ∃ r' ∈ q, r.step = r'.step := by
  cases q with
  | nil => simp [tickHead] at hr
  | cons x rest =>
    obtain rfl | hr := List.mem_cons.mp hr
    · exact ⟨x, by simp, rfl⟩
    · exact ⟨r, by simp [hr], rfl⟩

/-- Settles O9: only the link's own operations begin or end an attempt, and each leaves one where it may be. -/
theorem everyStepKeepsTheLink : Obligations.EveryStepKeepsTheLink := by
  intro s t hs he
  refine keptByCommands_linkOk.step (fun u hu => ?_) (fun u q hu => hu) hs he
  refine Steady.linkOk (s := u) (.of_exec ⟨rfl, rfl, rfl, fun h => ?_, fun h r hr => ?_⟩ rfl) hu
  · rw [State.port_tick]; exact .inl rfl
  · rw [State.directQueue_tick] at hr
    exact tickHead_step hr

end Sys2Proof.Machine
end


section
/-! SUPPORT. The lane records: what each change of one keeps of the agreement with its run state, and what each operation of
the lane controller and the executor leaves of the agreement between lanes, executor and ports. -/

set_option Elab.async false

variable {reach : Nat}

namespace Sys2Proof.Machine

/-! ### One lane record -/

section
variable {x : Lane} (hx : x.Ok)
include hx

/-- A lane in a pass has an owner or is being stopped. -/
theorem Lane.Ok.not_free (hr : x.run ≠ .idle) : x.condition ≠ .free := fun hc => hr (hx.1 hc).1

theorem Lane.Ok.run_of_orphan (hc : x.condition = .orphan) : x.run = .idle ∨ x.run = .stopping := hx.2.1 hc

/-- A step is held for a READY lane or one in its retry wait alone (R107). -/
theorem Lane.Ok.held_eq_none (hr : x.run ≠ .ready ∧ x.run ≠ .retryWait) : x.held = none := by
  obtain ⟨-, -, -, -, -, -, -, -, -, -, -, hheld, -⟩ := hx
  by_contra hk
  have := hheld (Option.isSome_iff_ne_none.mpr hk)
  tauto

/-- The lane as a stop leaves it (R23, R35). -/
theorem Lane.Ok.stopped :
    ({ x with
        write := none, waiting := false, held := none, retryLeft := 0, pending := false, disarmAtEnd := false
        run := .idle, position := 0 } : Lane).Ok := by
  unfold Lane.Ok at *
  simp_all [RunState.hasBank, RunState.inPass]

theorem Lane.Ok.suspended (hr : x.run = .running) : ({ x with run := .suspended } : Lane).Ok := by
  unfold Lane.Ok at *
  simp_all [RunState.hasBank, RunState.inPass]

theorem Lane.Ok.restarted (hr : x.run = .running) :
    ({ x with run := .suspended, position := 0, errorCount := 0 } : Lane).Ok := by
  unfold Lane.Ok at *
  simp_all [RunState.hasBank, RunState.inPass]

theorem Lane.Ok.stopping (hr : x.run = .running) : ({ x with run := .stopping } : Lane).Ok := by
  unfold Lane.Ok at *
  simp_all [RunState.hasBank, RunState.inPass]

theorem Lane.Ok.advanced (hr : x.run = .running) (hl : x.position < x.program.length) {n : Nat} {p : Bool}
    (hn : n ≤ x.errorCount + 1) : ({ x with position := x.position + 1, errorCount := n, pending := p } : Lane).Ok := by
  unfold Lane.Ok at *
  simp_all [RunState.hasBank, RunState.inPass]
  omega

theorem Lane.Ok.atBreak (hr : x.run = .running) (hp : x.pending = false) (hl : x.position < x.program.length) :
    ({ x with run := .atBreak, position := x.position + 1 } : Lane).Ok := by
  unfold Lane.Ok at *
  simp_all [RunState.hasBank, RunState.inPass]
  omega

/-- The lane as a failed step under HALT leaves it (R114). -/
theorem Lane.Ok.halted (hr : x.run = .running) (hl : x.position < x.program.length) :
    ({ x with
        errorCount := x.errorCount + 1, write := none, waiting := false, held := none, retryLeft := 0, pending := false
        disarmAtEnd := false, run := .halted } : Lane).Ok := by
  unfold Lane.Ok at *
  simp_all [RunState.hasBank, RunState.inPass]
  omega

theorem Lane.Ok.retryWait (hr : x.run = .running) (hs : x.atStep = true) {k : HeldStep} {n : Nat}
    (hk : k.attempts < x.config.limit) : ({ x with run := .retryWait, held := some k, retryLeft := n } : Lane).Ok := by
  unfold Lane.Ok at *
  simp_all [RunState.hasBank, RunState.inPass, Lane.atStep]

theorem Lane.Ok.retried (hr : x.run = .retryWait) : ({ x with run := .ready, retryLeft := 0 } : Lane).Ok := by
  unfold Lane.Ok at *
  simp_all [RunState.hasBank, RunState.inPass, Lane.atStep]

theorem Lane.Ok.continued (hr : x.run = .atBreak) : ({ x with run := .ready } : Lane).Ok := by
  unfold Lane.Ok at *
  simp_all [RunState.hasBank, RunState.inPass]

/-- A trigger or a disarm noted for a pass in progress. -/
theorem Lane.Ok.noted (hr : x.run.inPass = true) {p d : Bool} (hb : x.run = .atBreak → p = false) :
    ({ x with pending := p, disarmAtEnd := d } : Lane).Ok := by
  unfold Lane.Ok at *
  simp_all [Lane.atStep]

theorem Lane.Ok.disarmed (hr : x.run = .armed) : ({ x with run := .idle } : Lane).Ok := by
  unfold Lane.Ok at *
  simp_all [RunState.hasBank, RunState.inPass]

theorem Lane.Ok.homed (hr : x.run = .halted) : ({ x with run := .idle, position := 0 } : Lane).Ok := by
  unfold Lane.Ok at *
  simp_all [RunState.hasBank, RunState.inPass]

theorem Lane.Ok.armed (hr : x.run = .idle ∨ x.run = .halted) {h : HostId} (ho : x.condition = .owned h) :
    ({ x with run := .armed, position := 0, pending := false, disarmAtEnd := false } : Lane).Ok := by
  unfold Lane.Ok at *
  obtain hr | hr := hr <;> simp_all [RunState.hasBank, RunState.inPass]

theorem Lane.Ok.counted (n : Nat) : ({ x with overrun := n } : Lane).Ok := by
  unfold Lane.Ok at *
  simpa [Lane.atStep] using hx

/-- A lane that waits for a bank takes one (R122). -/
theorem Lane.Ok.readied (hr : x.run = .bankWait) (b : BankId) :
    ({ x with run := .ready, write := some b, waiting := false } : Lane).Ok := by
  unfold Lane.Ok at *
  simp_all [RunState.hasBank, RunState.inPass]

theorem Lane.Ok.still (hr : x.run = .bankWait) : ({ x with run := .bankWait, waiting := true } : Lane).Ok := by
  unfold Lane.Ok at *
  simp_all [RunState.hasBank, RunState.inPass]

end

/-- What a pass starts from: a lane in use, with no write bank and no step held (R45). -/
structure Lane.Startable (x : Lane) : Prop where
  used : ∃ h, x.condition = .owned h
  write : x.write = none
  held : x.held = none
  length : x.program.length ≤ Config.programMax
  limit : 1 ≤ x.config.limit ∧ x.config.limit ≤ 8

theorem Lane.Startable.ready {x : Lane} (hx : x.Startable) (b : BankId) :
    ({ x with position := 0, errorCount := 0, run := .ready, write := some b, waiting := false } : Lane).Ok := by
  obtain ⟨⟨h, hc⟩, hw, hh, hl, hlim⟩ := hx
  unfold Lane.Ok
  simp_all [RunState.hasBank, RunState.inPass]

theorem Lane.Startable.bankWait {x : Lane} (hx : x.Startable) :
    ({ x with position := 0, errorCount := 0, run := .bankWait, waiting := true } : Lane).Ok := by
  obtain ⟨⟨h, hc⟩, hw, hh, hl, hlim⟩ := hx
  unfold Lane.Ok
  simp_all [RunState.hasBank, RunState.inPass]

theorem Lane.Ok.startable {x : Lane} (hx : x.Ok) (hr : x.run = .armed) : x.Startable := by
  unfold Lane.Ok at hx
  cases hc : x.condition <;> simp_all [RunState.hasBank, RunState.inPass]
  refine ⟨⟨_, hc⟩, ?_, ?_, ?_, ?_⟩ <;> simp_all

theorem Lane.Ok.granted {x : Lane} (hx : x.Ok) (hr : x.run = .ready ∨ x.run = .suspended) :
    ({ x with run := .running, held := none } : Lane).Ok := by
  unfold Lane.Ok at *
  obtain hr | hr := hr <;> simp_all [RunState.hasBank, RunState.inPass]

/-- A RUNNING lane has an owner. -/
theorem Lane.Ok.owned_of_running {x : Lane} (hx : x.Ok) (hr : x.run = .running) : ∃ h, x.condition = .owned h := by
  cases hc : x.condition with
  | free => exact absurd hc (hx.not_free (by simp [hr]))
  | owned h => exact ⟨h, rfl⟩
  | orphan =>
    have := hx.run_of_orphan hc
    simp [hr] at this

/-- A completed pass, its bank given up, may start again (R73). -/
theorem Lane.Ok.startable_of_completed {x : Lane} (hx : x.Ok) (hr : x.run = .running) {b : BankId} {g : BitVec 16}
    {p : Bool} : ({ x with front := some b, write := none, generation := g, pending := p } : Lane).Startable := by
  have hused := hx.owned_of_running hr
  have hheld := hx.held_eq_none (by simp [hr])
  obtain ⟨-, -, -, -, -, -, -, -, hlen, -, hlimit, -⟩ := hx
  exact ⟨hused, rfl, hheld, hlen, hlimit⟩

/-- A lane out of a pass, with no write bank, no step held and nothing noted. -/
theorem Lane.ok_of_rest {x : Lane} (hc : ∃ h, x.condition = .owned h) (hr : x.run = .idle ∨ x.run = .armed)
    (hw : x.write = none) (hwait : x.waiting = false) (hp : x.position = 0) (hd : x.disarmAtEnd = false)
    (hn : x.pending = false) (hh : x.held = none) (hl : x.program.length ≤ Config.programMax)
    (herr : x.errorCount ≤ Config.programMax) (hlimit : 1 ≤ x.config.limit ∧ x.config.limit ≤ 8) : x.Ok := by
  obtain ⟨h, hc⟩ := hc
  unfold Lane.Ok
  obtain hr | hr := hr <;> simp_all [RunState.hasBank, RunState.inPass]

/-- A lane that has given up its pass's bank comes to rest (R73). -/
theorem Lane.Ok.rested {x : Lane} (hx : x.Ok) (hr : x.run = .running) {b : BankId} {g : BitVec 16} {r : RunState}
    (hrest : r = .idle ∨ r = .armed) :
    ({ x with
        front := some b, write := none, generation := g, run := r, position := 0, disarmAtEnd := false
        pending := false } : Lane).Ok := by
  have hused := hx.owned_of_running hr
  have hheld := hx.held_eq_none (by simp [hr])
  obtain ⟨-, -, -, hwait, -, -, -, -, hlen, herr, hlimit, -⟩ := hx
  exact Lane.ok_of_rest hused hrest rfl (by simp [hwait, hr]) rfl rfl rfl hheld hlen herr hlimit

/-- The step at a lane's position is within its program. -/
theorem Lane.position_lt_of_atStep {x : Lane} (hs : x.atStep = true) : x.position < x.program.length := by
  unfold Lane.atStep at hs
  split at hs
  next st h => exact (List.getElem?_eq_some_iff.mp h).1
  · simp at hs

/-! ### Lanes, executor and ports -/

/-- What holds of the lanes, the direct queues and the held responses whatever is in execution. -/
structure State.LanesBase (s : State) : Prop where
  lanes : ∀ l, (s.lane l).Ok
  direct : ∀ h, ∀ r ∈ s.directQueue h, r.attempts < r.limit ∧ r.limit ≤ 8
  held : ∀ h l, (s.port h).waitsFor = some (.laneStop l) → (s.lane l).run = .stopping

/-- The lane is RUNNING or STOPPING. -/
def State.Runs (s : State) (l : LaneId) : Prop := (s.lane l).run = .running ∨ (s.lane l).run = .stopping

/-- No step is in execution, and no lane has the grant. -/
structure State.Vacant (s : State) : Prop extends State.LanesBase s where
  exec : s.exec = none
  rest : ∀ l, ¬ s.Runs l

/-- Between two steps of a lane: no step is in execution, and the lane alone has the grant. -/
structure State.Between (s : State) (l : LaneId) : Prop extends State.LanesBase s where
  exec : s.exec = none
  runs : ∀ m, s.Runs m ↔ l = m

theorem State.LanesOk.base {s : State} (hs : s.LanesOk) : s.LanesBase := ⟨hs.1, hs.2.2.2.1, hs.2.2.2.2⟩

theorem State.LanesOk.runs_iff {s : State} (hs : s.LanesOk) (l : LaneId) :
    s.Runs l ↔ s.exec.any (fun e => e.holder == .lane l) = true := hs.2.1 l

theorem State.LanesOk.execution {s : State} (hs : s.LanesOk) {e : Execution} (he : s.exec = some e) : e.Ok s :=
  hs.2.2.1 e he

theorem State.lanesOk_of {s : State} (hb : s.LanesBase)
    (hr : ∀ l, s.Runs l ↔ s.exec.any (fun e => e.holder == .lane l) = true) (he : ∀ e ∈ s.exec, Execution.Ok s e) :
    s.LanesOk := ⟨hb.lanes, hr, he, hb.direct, hb.held⟩

theorem State.Vacant.lanesOk {s : State} (hs : s.Vacant) : s.LanesOk :=
  State.lanesOk_of hs.toLanesBase (fun l => by simp [hs.exec, hs.rest l]) fun e he => by simp [hs.exec] at he

/-- Lanes, direct queues and executor as they were, and no response held that was not. -/
structure Aside (s t : State) : Prop where
  lanes : t.lanes = s.lanes
  direct : t.direct = s.direct
  exec : t.exec = s.exec
  waits : ∀ h, (t.port h).waitsFor = (s.port h).waitsFor ∨ (t.port h).waitsFor = none

theorem Aside.refl (s : State) : Aside s s := ⟨rfl, rfl, rfl, fun _ => .inl rfl⟩

theorem Aside.of_eq {s t : State} (hl : t.lanes = s.lanes) (hd : t.direct = s.direct) (he : t.exec = s.exec)
    (hp : t.ports = s.ports) : Aside s t :=
  ⟨hl, hd, he, fun h => .inl (by rw [State.port, hp]; rfl)⟩

theorem Aside.trans {s t u : State} (h : Aside s t) (g : Aside t u) : Aside s u where
  lanes := g.lanes.trans h.lanes
  direct := g.direct.trans h.direct
  exec := g.exec.trans h.exec
  waits k := by
    obtain e | e := g.waits k
    · rw [e]; exact h.waits k
    · exact .inr e

section
variable {s t : State} (h : Aside s t)
include h

theorem Aside.lane (l : LaneId) : t.lane l = s.lane l := congrArg (look · l) h.lanes

theorem Aside.directQueue (k : HostId) : t.directQueue k = s.directQueue k := congrArg (look · k) h.direct

theorem Aside.base (hs : s.LanesBase) : t.LanesBase where
  lanes l := by rw [h.lane]; exact hs.lanes l
  direct k r hr := hs.direct k r (h.directQueue k ▸ hr)
  held k l hk := by
    rw [h.lane]
    obtain e | e := h.waits k <;> rw [e] at hk
    · exact hs.held k l hk
    · simp at hk

theorem Aside.runs (l : LaneId) : t.Runs l ↔ s.Runs l := by unfold State.Runs; rw [h.lane]

theorem Aside.vacant (hs : s.Vacant) : t.Vacant :=
  ⟨h.base hs.toLanesBase, h.exec.trans hs.exec, fun l => by rw [h.runs]; exact hs.rest l⟩

theorem Aside.between {l : LaneId} (hs : s.Between l) : t.Between l :=
  ⟨h.base hs.toLanesBase, h.exec.trans hs.exec, fun m => by rw [h.runs]; exact hs.runs m⟩

/-- What the holder brings is read off the lanes and the direct queues (R59). -/
theorem Aside.brought (e : Execution) : Execution.brought t e = Execution.brought s e := by
  unfold Execution.brought
  cases e.holder with
  | lane l => dsimp only; rw [h.lane]
  | direct k => dsimp only; rw [h.directQueue]
  | discarded => rfl
  | probe => rfl

theorem Aside.lanesOk (hs : s.LanesOk) : t.LanesOk := by
  refine State.lanesOk_of (h.base hs.base) (fun l => ?_) fun e he => ?_
  · rw [h.runs, h.exec]
    exact hs.runs_iff l
  · have := hs.execution (h.exec ▸ he)
    unfold Execution.Ok at *
    rwa [h.brought]

end

theorem State.queueEvent_aside (s : State) (h : HostId) (b : EventBody) : Aside s (s.queueEvent h b) := by
  rw [State.queueEvent_eq]
  exact .of_eq rfl rfl rfl rfl

theorem State.queueOwner_aside (s : State) (l : LaneId) (b : EventBody) : Aside s (s.queueOwner l b) := by
  rw [State.queueOwner_eq]
  exact .of_eq rfl rfl rfl rfl

theorem State.queueSubscribers_aside (s : State) (l : LaneId) (b : EventBody) : Aside s (s.queueSubscribers l b) := by
  rw [State.queueSubscribers_eq]
  exact .of_eq rfl rfl rfl rfl

theorem State.queueAll_aside (s : State) (b : EventBody) : Aside s (s.queueAll b) := by
  rw [State.queueAll_eq]
  exact .of_eq rfl rfl rfl rfl

theorem State.settleToggle_aside (s : State) (st : Step) (sent : Bool) : Aside s (s.settleToggle st sent) := by
  rw [State.settleToggle_eq]
  exact .of_eq rfl rfl rfl rfl

theorem State.settleHeld_aside (s : State) (l : LaneId) : Aside s (s.settleHeld l) := by
  rw [State.settleHeld_eq]
  exact .of_eq rfl rfl rfl rfl

theorem State.settleStopped_aside (s : State) (l : LaneId) : Aside s (s.settleStopped l) := by
  unfold State.settleStopped
  split
  · split
    · exact s.settleToggle_aside _ _
    · exact .refl s
  · exact .refl s

theorem State.writeRecord_aside (s : State) (l : LaneId) (e : Execution) (o : StepOutcome) (data : List Byte) :
    Aside s (s.writeRecord l e o data) := by
  obtain ⟨r, b, -, -, h⟩ | h := s.writeRecord_cases l e o data <;> rw [h]
  · exact .of_eq rfl rfl rfl rfl
  · exact .refl s

theorem State.updateStation_aside (s : State) (g : SegmentId) (n : StationId) (valid : Bool) :
    Aside s (s.updateStation g n valid) := by
  have entry (x : Station) : Aside s (s.setStation g n x) := .of_eq rfl rfl rfl rfl
  obtain ⟨-, -, h⟩ | ⟨-, -, h⟩ | ⟨-, h⟩ := s.updateStation_cases g n valid <;> rw [h]
  · exact (entry _).trans (State.queueAll_aside _ _)
  · exact (entry _).trans (State.queueAll_aside _ _)
  · exact entry _

theorem State.readyHeld_aside (s : State) (k : HeldKind) (r : Reply) : Aside s (s.readyHeld k r) :=
  ⟨rfl, rfl, rfl, fun h => by rw [State.readyHeld_port]; exact (s.port h).released_waitsFor k r⟩

theorem State.enterGap_aside (s : State) : Aside s s.enterGap := .of_eq rfl rfl rfl rfl

/-- A change of one lane that keeps what its run state and the executor say of each other. -/
theorem State.LanesOk.setLane {s : State} (hs : s.LanesOk) (l : LaneId) {y : Lane} (hy : y.Ok)
    (hruns : (y.run = .running ∨ y.run = .stopping) ↔ s.Runs l)
    (hstop : (s.lane l).run = .stopping → y.run = .stopping)
    (hstep : s.Runs l → y.atStep = (s.lane l).atStep ∧ y.config.limit = (s.lane l).config.limit) :
    (s.setLane l y).LanesOk := by
  refine State.lanesOk_of ⟨fun m => ?_, hs.base.direct, fun h m hw => ?_⟩ (fun m => ?_) fun e he => ?_
  · by_cases e : l = m
    · subst e; simpa using hy
    · simpa [e] using hs.base.lanes m
  · have hrun := hs.base.held h m hw
    by_cases e : l = m
    · subst e; simpa using hstop hrun
    · simpa [e] using hrun
  · have hr := hs.runs_iff m
    unfold State.Runs at *
    by_cases e : l = m
    · subst e
      simpa [hruns] using hr
    · simpa [e] using hr
  · obtain ⟨hatt, hlim, hb⟩ := hs.execution he
    refine ⟨hatt, hlim, ?_⟩
    unfold Execution.brought at *
    cases hh : e.holder with
    | lane m =>
      simp only [hh] at hb ⊢
      by_cases hl : l = m
      · subst hl
        have he : s.exec = some e := he
        obtain ⟨hat, hlimit⟩ := hstep ((hs.runs_iff l).mpr (by simp [he, hh]))
        rw [State.lane_setLane_self, hat, hlimit]
        exact hb
      · rw [State.lane_setLane_ne _ _ hl]
        exact hb
    | direct k =>
      simp only [hh] at hb ⊢
      exact hb
    | discarded => simpa only [hh] using hb
    | probe => simpa only [hh] using hb

theorem State.LanesBase.setLane {s : State} (hs : s.LanesBase) (l : LaneId) {y : Lane} (hy : y.Ok)
    (hstop : (s.lane l).run = .stopping → y.run = .stopping) : (s.setLane l y).LanesBase where
  lanes m := by
    by_cases e : l = m
    · subst e; simpa using hy
    · simpa [e] using hs.lanes m
  direct := hs.direct
  held h m hw := by
    have hrun := hs.held h m hw
    by_cases e : l = m
    · subst e; simpa using hstop hrun
    · simpa [e] using hrun

/-- The lane that was between its steps lets go of the grant. -/
theorem State.Between.rest {s : State} {l : LaneId} (hs : s.Between l) (hr : (s.lane l).run = .running) {y : Lane}
    (hy : y.Ok) (hrest : y.run ≠ .running ∧ y.run ≠ .stopping) : (s.setLane l y).Vacant where
  toLanesBase := hs.toLanesBase.setLane l hy (by simp [hr])
  exec := hs.exec
  rest m := by
    have := hs.runs m
    unfold State.Runs at *
    by_cases e : l = m
    · subst e; simpa using hrest
    · simpa [e] using this

/-- The lane between its steps moves on and stays RUNNING. -/
theorem State.Between.keep {s : State} {l : LaneId} (hs : s.Between l) (hr : (s.lane l).run = .running) {y : Lane}
    (hy : y.Ok) (hrun : y.run = .running) : (s.setLane l y).Between l where
  toLanesBase := hs.toLanesBase.setLane l hy (by simp [hr])
  exec := hs.exec
  runs m := by
    have := hs.runs m
    unfold State.Runs at *
    by_cases e : l = m
    · subst e; simp [hrun]
    · simpa [e] using this

/-- A lane that takes no part changes while no step is in execution. -/
theorem State.Vacant.setLane {s : State} (hs : s.Vacant) (l : LaneId) {y : Lane} (hy : y.Ok)
    (hrest : y.run ≠ .running ∧ y.run ≠ .stopping) : (s.setLane l y).Vacant where
  toLanesBase := hs.toLanesBase.setLane l hy fun h => absurd (.inr h) (hs.rest l)
  exec := hs.exec
  rest m := by
    have := hs.rest m
    unfold State.Runs at *
    by_cases e : l = m
    · subst e; simpa using hrest
    · simpa [e] using this

/-- The executor lets go of a step: its lane is then between its steps. -/
theorem State.LanesOk.between {s : State} (hs : s.LanesOk) {e : Execution} {l : LaneId} (he : s.exec = some e)
    (hh : e.holder = .lane l) : State.Between { s with exec := none } l where
  toLanesBase := ⟨hs.base.lanes, hs.base.direct, hs.base.held⟩
  exec := rfl
  runs m := by
    have := hs.runs_iff m
    simp only [he, Option.any_some, hh, beq_iff_eq, Holder.lane.injEq] at this
    exact this

/-- The executor lets go of a step that no lane brought. -/
theorem State.LanesOk.vacant {s : State} (hs : s.LanesOk) {e : Execution} (he : s.exec = some e)
    (hh : ∀ l, e.holder ≠ .lane l) : State.Vacant { s with exec := none } where
  toLanesBase := ⟨hs.base.lanes, hs.base.direct, hs.base.held⟩
  exec := rfl
  rest m := by
    have := hs.runs_iff m
    simp only [he, Option.any_some, beq_iff_eq, hh m, iff_false] at this
    exact this

theorem State.LanesOk.vacant_of_none {s : State} (hs : s.LanesOk) (he : s.exec = none) : s.Vacant where
  toLanesBase := hs.base
  exec := he
  rest m := by
    have := hs.runs_iff m
    simp only [he, Option.any_none, Bool.false_eq_true, iff_false] at this
    exact this

/-- The step of a lane that has the grant stands at its position, under the lane's own limit (R59). -/
theorem State.LanesOk.brought_lane {s : State} (hs : s.LanesOk) {e : Execution} {l : LaneId} (he : s.exec = some e)
    (hh : e.holder = .lane l) : (s.lane l).atStep = true ∧ e.limit = (s.lane l).config.limit := by
  obtain ⟨-, -, hb⟩ := hs.execution he
  unfold Execution.brought at hb
  simpa [hh] using hb

end Sys2Proof.Machine
end


section
/-! SUPPORT. The operations of the lane controller, the arbiter and the executor over the agreement of lanes, executor and
ports. -/

set_option Elab.async false

variable {reach : Nat}

namespace Sys2Proof.Machine

/-! ### Stops -/

/-- A lane record as a stop leaves it (R23, R35). -/
def Lane.stopped (x : Lane) : Lane :=
  { x with
    write := none, waiting := false, held := none, retryLeft := 0, pending := false, disarmAtEnd := false
    run := .idle, position := 0 }

/-- A lane record as an abandoned pass leaves it, before its cause sets run state and position (R23). -/
def Lane.abandoned (x : Lane) : Lane :=
  { x with write := none, waiting := false, held := none, retryLeft := 0, pending := false, disarmAtEnd := false }

theorem State.abandonPass_aside (s : State) (l : LaneId) :
    Aside (s.setLane l (s.lane l).abandoned) (s.abandonPass l) := by
  rw [State.abandonPass_eq]
  have h := s.settleHeld_aside l
  exact .of_eq (congrArg (put · l (s.lane l).abandoned) h.lanes) h.direct h.exec (by rw [State.settleHeld_eq]; rfl)

theorem State.stopAtOnce_aside (s : State) (l : LaneId) : Aside (s.setLane l (s.lane l).stopped) (s.stopAtOnce l) := by
  have h := (s.abandonPass_aside l).trans ((s.abandonPass l).queueOwner_aside l (.passAbandoned l (s.lane l).position))
  unfold State.stopAtOnce
  dsimp only
  set t := (s.abandonPass l).queueOwner l (.passAbandoned l (s.lane l).position)
  have hl : t.lane l = (s.lane l).abandoned := by rw [h.lane]; simp
  refine ⟨?_, h.direct, h.exec, h.waits⟩
  rw [hl, State.setLane, h.lanes]
  simp [State.setLane, Lane.stopped, Lane.abandoned]

theorem State.leaveStopping_lane (s : State) (l m : LaneId) :
    (s.leaveStopping l).lane m = if l = m then (s.lane m).stopped else s.lane m := by
  have hrelease (u : State) : (u.releaseLane l).lane m = u.lane m := by
    obtain ⟨e, -, -, h⟩ | ⟨-, h⟩ := u.releaseLane_cases l <;> rw [h]
    rfl
  rw [State.leaveStopping, (State.readyHeld_aside _ _ _).lane, hrelease, (s.stopAtOnce_aside l).lane]
  by_cases e : l = m
  · subst e; simp
  · simp [e]

theorem State.leaveStopping_port (s : State) (l : LaneId) (h : HostId) :
    (s.leaveStopping l).port h = (s.port h).released (.laneStop l) (.stopped .running) := by
  have hrelease (u : State) : (u.releaseLane l).port h = u.port h := by
    obtain ⟨e, -, -, e'⟩ | ⟨-, e'⟩ := u.releaseLane_cases l <;> rw [e']
    rfl
  have hstop : (s.stopAtOnce l).ports = s.ports := by
    have hown (u : State) (b : EventBody) : (u.queueOwner l b).ports = u.ports := by rw [State.queueOwner_eq]
    unfold State.stopAtOnce
    dsimp only
    rw [State.setLane_ports, hown, State.abandonPass_eq, State.setLane_ports, State.settleHeld_eq]
  rw [State.leaveStopping, State.readyHeld_port, hrelease, State.port, hstop]
  rfl

theorem State.leaveStopping_directQueue (s : State) (l : LaneId) (h : HostId) :
    (s.leaveStopping l).directQueue h = s.directQueue h := by
  have hrelease (u : State) : (u.releaseLane l).directQueue h = u.directQueue h := by
    obtain ⟨e, -, -, e'⟩ | ⟨-, e'⟩ := u.releaseLane_cases l <;> rw [e']
    rfl
  rw [State.leaveStopping, (State.readyHeld_aside _ _ _).directQueue, hrelease, (s.stopAtOnce_aside l).directQueue]
  rfl

/-- A lane leaves STOPPING: no lane has the grant, and no response waits for its stop (R36). -/
theorem State.leaveStopping_vacant {s : State} {l : LaneId} (hl : (s.lane l).stopped.Ok)
    (hlanes : ∀ m, l ≠ m → (s.lane m).Ok ∧ ¬ s.Runs m)
    (hdirect : ∀ h, ∀ r ∈ s.directQueue h, r.attempts < r.limit ∧ r.limit ≤ 8)
    (hheld : ∀ h m, l ≠ m → (s.port h).waitsFor = some (.laneStop m) → (s.lane m).run = .stopping)
    (hexec : (s.releaseLane l).exec = none) : (s.leaveStopping l).Vacant where
  lanes m := by
    rw [State.leaveStopping_lane]
    split
    next e => subst e; exact hl
    next e => exact (hlanes m e).1
  direct h r hr := hdirect h r (by rwa [State.leaveStopping_directQueue] at hr)
  held h m hw := by
    rw [State.leaveStopping_port] at hw
    rw [State.leaveStopping_lane]
    split
    next e =>
      subst e
      exact absurd hw (Port.released_not_waiting _ _ _)
    next e =>
      obtain e' | e' := (s.port h).released_waitsFor (.laneStop l) (.stopped .running) <;> rw [e'] at hw
      · exact hheld h m e hw
      · simp at hw
  exec := by rw [State.leaveStopping_exec, hexec]
  rest m := by
    unfold State.Runs
    rw [State.leaveStopping_lane]
    split
    · simp [Lane.stopped]
    next e => exact (hlanes m e).2

theorem State.Between.leaveStopping {s : State} {l : LaneId} (hs : s.Between l) : (s.leaveStopping l).Vacant :=
  State.leaveStopping_vacant (hs.lanes l).stopped (fun m e => ⟨hs.lanes m, fun h => e ((hs.runs m).mp h)⟩) hs.direct
    (fun h m _ hw => hs.held h m hw) (State.releaseLane_exec_of_none l hs.exec)

/-! ### Passes -/

theorem State.takeBank_waits (s : State) (l : LaneId) (h : HostId) : (s.takeBank l).port h = s.port h := by
  rw [State.takeBank_eq]; rfl

theorem State.clearBank_aside (s : State) (l : LaneId) (b : BankId) : Aside s (s.clearBank l b) := .of_eq rfl rfl rfl rfl

/-- A lane's bank choice is a change of that lane alone: READY with a bank, or BANK_WAIT. -/
theorem State.takeBank_aside (s : State) (l : LaneId) :
    (∃ b, Aside (s.setLane l { s.lane l with run := .ready, write := some b, waiting := false }) (s.takeBank l))
      ∨ Aside (s.setLane l { s.lane l with run := .bankWait, waiting := true }) (s.takeBank l) := by
  obtain ⟨b, -, -, -, h⟩ | ⟨-, h⟩ := s.takeBank_cases l
  · exact .inl ⟨b, by rw [h]; exact .of_eq rfl rfl rfl rfl⟩
  · exact .inr (by rw [h]; exact .refl _)

/-- A pass start puts its lane into READY or BANK_WAIT, out of the executor's hands (R45). -/
theorem State.passStart_aside (s : State) (l : LaneId) (hx : (s.lane l).Startable) :
    ∃ y : Lane, y.Ok ∧ (y.run = .ready ∨ y.run = .bankWait) ∧ Aside (s.setLane l y) (s.passStart l) := by
  rw [State.passStart_eq]
  obtain ⟨b, h⟩ | h := (s.setLane l { s.lane l with position := 0, errorCount := 0 }).takeBank_aside l
  · exact ⟨_, hx.ready b, .inl rfl, by simpa using h⟩
  · exact ⟨_, hx.bankWait, .inr rfl, by simpa using h⟩

theorem State.countOverrun_aside (s : State) (l : LaneId) :
    ∃ n, Aside (s.setLane l { s.lane l with overrun := n }) (s.countOverrun l) := by
  obtain ⟨-, h⟩ | ⟨-, h⟩ := s.countOverrun_cases l
  · exact ⟨1, by rw [h]; exact State.queueOwner_aside _ _ _⟩
  · exact ⟨_, by rw [h]; exact .refl _⟩

/-- A lane record as the swap of its banks leaves it (R124). -/
def Lane.swapped (x : Lane) (c : BankId) : Lane :=
  { x with front := some c, write := none, generation := x.generation + 1 }

/-- The lane between its steps, its banks swapped, comes off the line whatever it becomes (R73). -/
theorem State.Between.rest_of_swapped {s v : State} {l : LaneId} {c : BankId} (hs : s.Between l)
    (hr : (s.lane l).run = .running) (hv : Aside (s.setLane l ((s.lane l).swapped c)) v) {y : Lane} (hy : y.Ok)
    (hrest : y.run ≠ .running ∧ y.run ≠ .stopping) : (v.setLane l y).Vacant := by
  refine Aside.vacant (s := s.setLane l y) ⟨?_, hv.direct, hv.exec, hv.waits⟩ (hs.rest hr hy hrest)
  simp [State.setLane, hv.lanes]

theorem State.Between.afterPass {s v : State} {l : LaneId} {c : BankId} (hs : s.Between l)
    (hr : (s.lane l).run = .running) (hv : Aside (s.setLane l ((s.lane l).swapped c)) v) : (v.afterPass l).Vacant := by
  have hx := hs.lanes l
  have hlane : v.lane l = (s.lane l).swapped c := by rw [hv.lane]; simp
  have idle : ({ v.lane l with run := .idle, position := 0, disarmAtEnd := false, pending := false } : Lane).Ok := by
    rw [hlane]
    exact hx.rested hr (.inl rfl)
  have h := v.afterPass_cases l
  dsimp only at h
  obtain ⟨-, -, h⟩ | ⟨⟨-, hdis⟩, hp, h⟩ | ⟨-, -, h⟩ | ⟨-, -, h⟩ := h <;> rw [h]
  · have hstartable : ({ v.lane l with pending := false } : Lane).Startable := by
      rw [hlane]
      exact hx.startable_of_completed hr
    obtain ⟨y, hy, hrun, hstart⟩ := (v.setLane l { v.lane l with pending := false }).passStart_aside l
      (by rw [State.lane_setLane_self]; exact hstartable)
    refine hstart.vacant ?_
    rw [State.setLane_setLane]
    refine hs.rest_of_swapped hr hv hy ?_
    obtain hrun | hrun := hrun <;> simp [hrun]
  · refine hs.rest_of_swapped hr hv ?_ (by simp)
    have armed : ({ v.lane l with
        run := .armed, position := 0, disarmAtEnd := (v.lane l).disarmAtEnd, pending := (v.lane l).pending } : Lane).Ok := by
      rw [hdis, hp, hlane]
      exact hx.rested hr (.inr rfl)
    exact armed
  · obtain ⟨n, hcount⟩ := State.countOverrun_aside
      (v.setLane l { v.lane l with run := .idle, position := 0, disarmAtEnd := false, pending := false }) l
    refine hcount.vacant ?_
    rw [State.setLane_setLane, State.lane_setLane_self]
    exact hs.rest_of_swapped hr hv (idle.counted n) (by simp)
  · exact hs.rest_of_swapped hr hv idle (by simp)

/-- A pass completion takes its lane off the line (R72, R73). -/
theorem State.Between.completePass {s : State} {l : LaneId} (hs : s.Between l) (hr : (s.lane l).run = .running) :
    (s.completePass l).Vacant := by
  obtain ⟨b, hb⟩ : ∃ b, (s.lane l).write = some b := by
    have hw := (hs.lanes l).2.2.1
    rw [hr] at hw
    exact Option.isSome_iff_exists.mp hw
  obtain ⟨hnone, -⟩ | ⟨c, -, hswap⟩ := s.swapBanks_cases l
  · simp [hb] at hnone
  have swapped : Aside (s.setLane l ((s.lane l).swapped c)) (s.swapBanks l) := by
    rw [hswap]
    exact .of_eq rfl rfl rfl rfl
  have told := hs.afterPass hr (swapped.trans ((s.swapBanks l).queueSubscribers_aside l
    (.passDone l ((s.swapBanks l).lane l).generation ((s.swapBanks l).lane l).errorCount)))
  rw [State.completePass_eq]
  dsimp only
  generalize State.afterPass _ l = u at told ⊢
  exact Aside.vacant (s := u) (.of_eq rfl rfl rfl rfl) told

/-- What the checks before a step leave: the pass is off the line, or the lane is RUNNING at a step that is no BREAK. -/
def Course.Sound (l : LaneId) : Course → Prop
  | .ended t => t.Vacant
  | .goesOn st t => t.Between l ∧ (t.lane l).run = .running ∧ (t.lane l).program[(t.lane l).position]? = some st

theorem State.Between.passChecks {l : LaneId} (steps : List Step) : ∀ {s : State}, s.Between l →
    (s.lane l).run = .running → s.stepsLeft l = steps → (s.passChecks l steps).Sound l := by
  induction steps with
  | nil => exact fun hs hr _ => hs.completePass hr
  | cons x rest ih =>
    intro s hs hr hsteps
    have hx := hs.lanes l
    have hget : (s.lane l).program[(s.lane l).position]? = some x := by
      have h := congrArg List.head? hsteps
      simpa [State.stepsLeft] using h
    have hlt : (s.lane l).position < (s.lane l).program.length := (List.getElem?_eq_some_iff.mp hget).1
    obtain ⟨h, -⟩ | ⟨tag, rest', h, -, e⟩ | ⟨tag, rest', -, hp, e⟩ | ⟨st', rest', h, -, e⟩ := s.passChecks_cases l (x :: rest)
    · exact absurd h (by simp)
    · obtain ⟨-, rfl⟩ : x = .brk tag ∧ rest = rest' := by simpa using h
      rw [e]
      refine ih (hs.keep hr (hx.advanced hr hlt (Nat.le_succ _)) hr) (by simpa using hr) ?_
      have htail := congrArg List.tail hsteps
      simpa [State.stepsLeft] using htail
    · rw [e]
      exact (State.queueOwner_aside _ _ _).vacant (hs.rest hr (hx.atBreak hr hp hlt) (by simp))
    · obtain ⟨rfl, -⟩ : x = st' ∧ rest = rest' := by simpa using h
      rw [e]
      exact ⟨hs, hr, hget⟩

theorem Lane.atStep_of_get {x : Lane} {st : Step} (hget : x.program[x.position]? = some st)
    (hseg : st.segment.isSome = true) : x.atStep = true := by
  simp [Lane.atStep, hget, hseg]

/-- A step put into execution stands at its lane's position, with attempts left (R99, R107). -/
theorem State.execute_lanesOk {s : State} {l : LaneId} {st : Step}
    (hs : (s.setLane l { s.lane l with held := none }).Between l)
    (hget : (s.lane l).program[(s.lane l).position]? = some st) (hseg : st.segment.isSome = true)
    (hk : ∀ k ∈ (s.lane l).held, k.attempts < (s.lane l).config.limit) : (s.execute l st).LanesOk := by
  have hx := hs.lanes l
  rw [State.lane_setLane_self] at hx
  obtain ⟨-, -, -, -, -, -, -, -, -, -, hlimit, -⟩ := hx
  refine State.lanesOk_of ⟨hs.lanes, hs.direct, hs.held⟩ (fun m => ?_) fun e he => ?_
  · have := hs.runs m
    simp only [State.execute, Option.any_some, beq_iff_eq, Holder.lane.injEq]
    exact this
  · obtain rfl := Option.some.inj he
    refine ⟨?_, hlimit.2, ?_⟩
    · cases hh : (s.lane l).held with
      | none => exact hlimit.1
      | some k => exact hk k hh
    · have hat : (s.lane l).atStep = true := Lane.atStep_of_get hget hseg
      have hlane : (s.execute l st).lane l = { s.lane l with held := none } := State.lane_setLane_self _ _ _
      simp only [Execution.brought]
      rw [hlane]
      simpa [Lane.atStep] using hat

theorem State.Between.execute {s : State} {l : LaneId} {st : Step} (hs : s.Between l) (hr : (s.lane l).run = .running)
    (hget : (s.lane l).program[(s.lane l).position]? = some st) (hseg : st.segment.isSome = true) :
    (s.execute l st).LanesOk := by
  have hnone := (hs.lanes l).held_eq_none (by simp [hr])
  have hsame : s.setLane l { s.lane l with held := none } = s := by
    rw [← hnone]
    exact s.setLane_lane l
  exact State.execute_lanesOk (by rw [hsame]; exact hs) hget hseg (by simp [hnone])

/-- A lane that waits for the line receives the grant (R64). -/
theorem State.Vacant.grantLane {s : State} {l : LaneId} (hs : s.Vacant)
    (hw : (s.lane l).run = .ready ∨ (s.lane l).run = .suspended) : (s.grantLane l).LanesOk := by
  have hx := hs.lanes l
  have hgrant := hx.granted hw
  obtain ⟨u, hu, h⟩ := s.grantLane_cases l
  have hlane : u.lane l = { s.lane l with run := .running } := by rw [hu]; exact State.lane_setLane_self _ _ _
  -- with what it kept put aside, the lane is between its steps
  have hfresh : (u.setLane l { u.lane l with held := none }).Between l := by
    have base : (s.setLane l { s.lane l with run := .running, held := none }).LanesBase :=
      hs.toLanesBase.setLane l hgrant fun e => absurd (.inr e) (hs.rest l)
    have aside : Aside (s.setLane l { s.lane l with run := .running, held := none })
        (u.setLane l { u.lane l with held := none }) := by
      rw [hlane, hu]
      refine .of_eq ?_ rfl rfl rfl
      simp [State.setLane]
    refine aside.between ⟨base, hs.exec, fun m => ?_⟩
    have := hs.rest m
    unfold State.Runs at *
    by_cases e : l = m
    · subst e; simp
    · simpa [e] using this
  cases hh : (s.lane l).held with
  | none =>
    have hnone : (u.lane l).held = none := by rw [hlane]; exact hh
    have hsame : u.setLane l { u.lane l with held := none } = u := by
      rw [← hnone]
      exact u.setLane_lane l
    rw [hsame] at hfresh
    have hrun : (u.lane l).run = .running := by rw [hlane]
    have hsound := hfresh.passChecks (u.stepsLeft l) hrun rfl
    obtain ⟨t, hc, ht⟩ | ⟨st, t, hc, ht⟩ := h <;> rw [ht] <;> rw [hc] at hsound
    · exact State.Vacant.lanesOk hsound
    · obtain ⟨hb, hr, hget⟩ := hsound
      exact hb.execute hr hget (State.passChecks_segment _ u l hc)
  | some k =>
    obtain ⟨-, -, -, -, -, -, -, -, -, -, -, -, -, hkept⟩ := hx
    obtain ⟨hatt, hat⟩ := hkept k hh
    have hstep : ∃ st, (u.lane l).program[(u.lane l).position]? = some st ∧ st.segment.isSome = true := by
      unfold Lane.atStep at hat
      rw [hlane]
      split at hat
      next st hst => exact ⟨st, hst, hat⟩
      · simp at hat
    obtain ⟨st, hget, hseg⟩ := hstep
    have hleft : u.stepsLeft l = st :: (u.lane l).program.drop ((u.lane l).position + 1) :=
      List.drop_eq_getElem?_toList_append.trans (by rw [hget]; rfl)
    have hgo : u.passChecks l (u.stepsLeft l) = .goesOn st u := by
      rw [hleft]
      cases st with
      | brk => cases hseg
      | _ => rfl
    obtain ⟨t, hc, -⟩ | ⟨st', t, hc, ht⟩ := h
    · simp [hgo] at hc
    · obtain ⟨rfl, rfl⟩ : st = st' ∧ u = t := by simpa [hgo] using hc
      rw [ht]
      refine State.execute_lanesOk hfresh hget hseg fun k' hk' => ?_
      rw [hlane] at hk' ⊢
      obtain rfl : k = k' := by simpa [hh] using hk'
      exact hatt

end Sys2Proof.Machine
end


section
/-! SUPPORT. Grants, boundaries, step ends, attempts and the line's operations over the agreement of lanes, executor and
ports, and the statement about the lanes. -/

set_option Elab.async false

variable {reach : Nat}

namespace Sys2Proof.Machine

/-! ### Grants and boundaries -/

theorem State.laneCandidate_waits {s : State} {levels : List (Fin 4)} {l : LaneId}
    (h : s.laneCandidate levels = some l) : s.laneWaits l = true := by
  induction levels with
  | nil => simp [State.laneCandidate] at h
  | cons p rest ih =>
    rw [State.laneCandidate] at h
    split at h
    next m hm =>
      obtain rfl := Option.some.inj h
      have := List.find?_some hm
      simp only [Bool.and_eq_true] at this
      exact this.1
    · exact ih h

/-- The candidate chosen waits for the line (R60, R62). -/
theorem State.bestCandidate_waits {s : State} {c : Candidate} (h : s.bestCandidate = some c) :
    (∃ k, c = .direct k ∧ s.directWaits k = true) ∨ (∃ l, c = .lane l ∧ s.laneWaits l = true) ∨ ∃ g n, c = .probe g n := by
  unfold State.bestCandidate at h
  split at h
  next k hk =>
    obtain rfl := Option.some.inj h
    exact .inl ⟨k, rfl, List.find?_some hk⟩
  · split at h
    next l hl =>
      obtain rfl := Option.some.inj h
      exact .inr (.inl ⟨l, rfl, State.laneCandidate_waits hl⟩)
    · obtain ⟨b, -, rfl⟩ := Option.map_eq_some_iff.mp h
      exact .inr (.inr ⟨_, _, rfl⟩)

theorem State.run_of_laneWaits {s : State} {l : LaneId} (h : s.laneWaits l = true) :
    (s.lane l).run = .ready ∨ (s.lane l).run = .suspended := by
  unfold State.laneWaits at h
  split at h
  next hr => exact .inl hr
  next hr => exact .inr hr
  · simp at h

theorem State.head_of_directWaits {s : State} {k : HostId} (h : s.directWaits k = true) :
    ∃ r rest, s.directQueue k = r :: rest ∧ r.retryLeft = none := by
  unfold State.directWaits at h
  split at h
  next r rest hq => exact ⟨r, rest, hq, by simpa using (Bool.and_eq_true_iff.mp h).1⟩
  · simp at h

/-- An executor that takes a step which no lane brings leaves the lanes at rest. -/
theorem State.Vacant.take {s t : State} (hs : s.Vacant) {e : Execution} (ht : Aside { s with exec := some e } t)
    (hh : ∀ l, e.holder ≠ .lane l) (he : e.attempts < e.limit ∧ e.limit ≤ 8)
    (hb : Execution.brought s e = true) : t.LanesOk := by
  refine ht.lanesOk (State.lanesOk_of ⟨hs.lanes, hs.direct, hs.held⟩ (fun l => ?_) fun e' he' => ?_)
  · have := hs.rest l
    simp only [Option.any_some, beq_iff_eq, hh l, iff_false]
    exact this
  · obtain rfl := Option.some.inj he'
    refine ⟨he.1, he.2, ?_⟩
    unfold Execution.brought at hb ⊢
    exact hb

theorem State.Vacant.giveGrant {s : State} (hs : s.Vacant) {c : Candidate} (hc : s.bestCandidate = some c) :
    (s.giveGrant c).LanesOk := by
  obtain ⟨k, rfl, hw⟩ | ⟨l, rfl, hw⟩ | ⟨g, n, rfl⟩ := State.bestCandidate_waits hc
  · obtain ⟨r, rest, hq, hr⟩ := State.head_of_directWaits hw
    have hok := hs.direct k r (by simp [hq])
    simp only [State.giveGrant, State.grantDirect, hq]
    refine hs.take (.of_eq rfl rfl rfl rfl) (by simp) hok ?_
    simp [Execution.brought, hq, hr]
  · exact hs.grantLane (State.run_of_laneWaits hw)
  · refine hs.take (.of_eq rfl rfl rfl rfl) (by simp) (by simp) ?_
    simp [Execution.brought, Step.asks]

/-- A preempted lane is SUSPENDED (R68). -/
theorem State.Between.suspendPass {s : State} {l : LaneId} (hs : s.Between l) (hr : (s.lane l).run = .running) :
    (s.suspendPass l).Vacant := by
  have hx := hs.lanes l
  obtain ⟨-, h⟩ | ⟨-, ⟨b, -, h⟩ | ⟨-, h⟩⟩ := s.suspendPass_cases l <;> rw [h]
  · exact hs.rest hr (hx.suspended hr) (by simp)
  · exact (State.clearBank_aside _ l b).vacant (hs.rest hr (hx.restarted hr) (by simp))
  · exact hs.rest hr (hx.restarted hr) (by simp)

theorem State.Vacant.passGrant {s : State} (hs : s.Vacant) : s.passGrant.LanesOk := by
  unfold State.passGrant
  split
  next c hc => exact hs.giveGrant hc
  · exact hs.lanesOk

/-- A step boundary leaves the pass over, preempted, or with its next step in execution (R66). -/
theorem State.Between.boundary {s : State} {l : LaneId} (hs : s.Between l) (hr : (s.lane l).run = .running) :
    (s.boundary l).LanesOk := by
  have hsound := hs.passChecks (s.stepsLeft l) hr rfl
  obtain ⟨t, hc, h⟩ | ⟨st, t, hc, h⟩ := s.boundary_cases l
  · rw [h]
    rw [hc] at hsound
    exact State.Vacant.lanesOk hsound
  · have hseg := State.passChecks_segment _ s l hc
    rw [hc] at hsound
    obtain ⟨hb, hrun, hget⟩ := hsound
    obtain ⟨-, h⟩ | ⟨-, h⟩ := h <;> rw [h]
    · exact (hb.suspendPass hrun).passGrant
    · exact hb.execute hrun hget hseg

/-! ### Step ends -/

/-- A second change of one lane makes up for the first. -/
theorem Aside.setLane {s t : State} {l : LaneId} {x : Lane} (ht : Aside (s.setLane l x) t) (y : Lane) :
    Aside (s.setLane l y) (t.setLane l y) := by
  refine ⟨?_, ht.direct, ht.exec, ht.waits⟩
  show put t.lanes l y = put s.lanes l y
  rw [ht.lanes]
  exact put_put _ _ _ _

theorem State.Between.advance {s t : State} {l : LaneId} (hs : s.Between l) (hr : (s.lane l).run = .running)
    (hlt : (s.lane l).position < (s.lane l).program.length) {n : Nat} (hn : n ≤ (s.lane l).errorCount + 1)
    (ht : Aside (s.setLane l { s.lane l with errorCount := n }) t) : (t.advance l).LanesOk := by
  have hlane : t.lane l = { s.lane l with errorCount := n } := by rw [ht.lane]; simp
  have kept := hs.keep hr ((hs.lanes l).advanced (p := (s.lane l).pending) hr hlt hn) hr
  have moved : (t.setLane l { t.lane l with position := (t.lane l).position + 1 }).Between l := by
    rw [hlane]
    exact (ht.setLane _).between kept
  refine State.Between.boundary moved ?_
  rw [State.lane_setLane_self, hlane]
  exact hr

theorem State.Between.haltPass {s : State} {l : LaneId} (hs : s.Between l) (hr : (s.lane l).run = .running)
    (hlt : (s.lane l).position < (s.lane l).program.length) (o : StepOutcome) : (s.haltPass l o).Vacant := by
  have halted := hs.rest hr ((hs.lanes l).halted hr hlt) (by simp)
  have abandon := (s.setLane l { s.lane l with errorCount := (s.lane l).errorCount + 1 }).abandonPass_aside l
  unfold State.haltPass
  refine (State.queueOwner_aside _ _ _).vacant ?_
  rw [abandon.lane, State.lane_setLane_self, State.lane_setLane_self]
  rw [State.setLane_setLane] at abandon
  exact (abandon.setLane _).vacant halted

theorem State.Between.laneStepEnd {s : State} {l : LaneId} (hs : s.Between l)
    (hlt : (s.lane l).position < (s.lane l).program.length) (e : Execution) (o : StepOutcome) (data : List Byte) :
    (s.laneStepEnd l e o data).LanesOk := by
  have hwrite := s.writeRecord_aside l e o data
  have hs' := hwrite.between hs
  have hlt' : ((s.writeRecord l e o data).lane l).position < ((s.writeRecord l e o data).lane l).program.length := by
    rw [hwrite.lane]; exact hlt
  have hrun : ((s.writeRecord l e o data).lane l).run ≠ .stopping → ((s.writeRecord l e o data).lane l).run = .running :=
    fun h => ((hs'.runs l).mpr rfl).resolve_right h
  have hcases := s.laneStepEnd_cases l e o data
  dsimp only at hcases
  generalize s.writeRecord l e o data = u at hs' hlt' hrun hcases
  obtain ⟨-, h⟩ | ⟨hr, -, h⟩ | ⟨hr, -, ⟨-, h⟩ | ⟨-, h⟩⟩ := hcases <;> rw [h]
  · exact hs'.leaveStopping.lanesOk
  · refine hs'.advance (t := u) (n := (u.lane l).errorCount) (hrun hr) hlt' (Nat.le_succ _) ?_
    exact .of_eq (congrArg State.lanes (u.setLane_lane l)).symm rfl rfl rfl
  · exact hs'.advance (hrun hr) hlt' le_rfl (State.queueOwner_aside _ _ _)
  · exact (hs'.haltPass (hrun hr) hlt' o).lanesOk

/-- A change of one direct queue whose requests have attempts left, while no step is in execution. -/
theorem State.Vacant.setDirectQueue {s : State} (hs : s.Vacant) (k : HostId) {q : List DirectRequest}
    (hq : ∀ r ∈ q, r.attempts < r.limit ∧ r.limit ≤ 8) : (s.setDirectQueue k q).Vacant where
  lanes := hs.lanes
  direct j r hr := by
    by_cases e : k = j
    · subst e; exact hq r (by simpa using hr)
    · exact hs.direct j r (by simpa [e] using hr)
  held := hs.held
  exec := hs.exec
  rest := hs.rest

theorem State.Vacant.directDone {s : State} (hs : s.Vacant) (k : HostId) (e : Execution) (o : StepOutcome)
    (data : List Byte) : (s.directDone k e o data).Vacant := by
  obtain ⟨-, h⟩ | ⟨r, rest, hq, h⟩ := s.directDone_cases k e o data <;> rw [h]
  · exact hs
  · exact (State.queueEvent_aside _ _ _).vacant
      (hs.setDirectQueue k fun r' hr' => hs.direct k r' (by simp [hq, hr']))

/-- A step end leaves lanes, executor and ports in agreement, whatever its outcome (R111). -/
theorem State.stepEnd_lanesOk {s : State} (hs : s.LanesOk) {e₀ : Execution} (he : s.exec = some e₀) {e : Execution}
    (hh : e.holder = e₀.holder) (o : StepOutcome) (data : List Byte) : (s.stepEnd e o data).LanesOk := by
  have settled := State.settleToggle_aside { s with exec := none } e.step e.fullySent
  obtain ⟨l, hl, h⟩ | ⟨k, hk, h⟩ | ⟨hk, h⟩ := s.stepEnd_cases e o data <;> rw [h]
  · have hat := (hs.brought_lane he (hh.symm.trans hl)).1
    refine (settled.between (hs.between he (hh.symm.trans hl))).laneStepEnd ?_ e o data
    rw [settled.lane]
    exact Lane.position_lt_of_atStep hat
  · exact ((settled.vacant (hs.vacant he (by simp [← hh, hk]))).directDone k e o data).lanesOk
  · refine (settled.vacant (hs.vacant he ?_)).lanesOk
    obtain hk | hk := hk <;> simp [← hh, hk]

/-! ### Retry waits, withdrawals, stops -/

/-- The request at the head of its queue keeps what the executor knew of it, with attempts left (R107). -/
theorem State.LanesOk.keepAtHead {s : State} (hs : s.LanesOk) {e₀ e : Execution} {k : HostId} (he : s.exec = some e₀)
    (hk : e₀.holder = .direct k) (hlim : e.limit = e₀.limit) (hatt : e.attempts < e.limit) (left : Option Nat) :
    (State.keepAtHead { s with exec := none } k e left).Vacant := by
  have hfree := hs.vacant he (by simp [hk])
  obtain ⟨-, -, hb⟩ := hs.execution he
  obtain ⟨-, h⟩ | ⟨r, rest, hq, h⟩ := State.keepAtHead_cases { s with exec := none } k e left <;> rw [h]
  · exact hfree
  · have hq : s.directQueue k = r :: rest := hq
    refine hfree.setDirectQueue k fun r' hr' => ?_
    obtain rfl | hr' := List.mem_cons.mp hr'
    · have hlimit : e₀.limit = r.limit := by
        simp only [Execution.brought, hk, hq] at hb
        simpa using (Bool.and_eq_true_iff.mp hb).2
      exact ⟨by simpa [← hlimit, ← hlim] using hatt, (hfree.direct k r (by simp [State.directQueue] at hq ⊢; simp [hq])).2⟩
    · exact hs.base.direct k r' (by simp [hq, hr'])

theorem State.retryWait_lanesOk {s : State} (hs : s.LanesOk) {e₀ e : Execution} (he : s.exec = some e₀)
    (hh : e.holder = e₀.holder) (hlim : e.limit = e₀.limit) (hatt : e.attempts < e.limit)
    (hlast : s.lastAttempt e = false) : (s.retryWait e).LanesOk := by
  unfold State.retryWait
  dsimp only
  split
  next l hl =>
    obtain ⟨hat, hlimit⟩ := hs.brought_lane he (hh.symm.trans hl)
    have hbetween := hs.between he (hh.symm.trans hl)
    have hrun : (s.lane l).run = .running := by
      have hne : (s.lane l).run ≠ .stopping := by simpa [State.lastAttempt, hl] using hlast
      exact ((hbetween.runs l).mpr rfl).resolve_right hne
    exact (hbetween.rest hrun ((hs.base.lanes l).retryWait hrun hat (by simp; omega)) (by simp)).lanesOk
  next k hk => exact (hs.keepAtHead he (hh.symm.trans hk) hlim hatt _).lanesOk
  next h₁ h₂ => exact (hs.vacant he (by rw [← hh]; exact h₁)).lanesOk

theorem State.countResult_lanesOk {s : State} (hs : s.LanesOk) {e : Execution} (he : s.exec = some e) (r : AttemptResult)
    (silenced : Bool) : (s.countResult e r silenced).LanesOk := by
  have ended := fun o data => State.stepEnd_lanesOk hs he (e := { e with attempts := e.attempts + 1 }) rfl o data
  obtain ⟨-, h⟩ | ⟨-, -, h⟩ | ⟨-, -, -, h⟩ | ⟨-, -, hatt, hlast, h⟩ := s.countResult_cases e r silenced <;> rw [h]
  · exact ended _ _
  · exact ended _ _
  · exact ended _ _
  · exact State.retryWait_lanesOk (e := { e with attempts := e.attempts + 1 }) hs he rfl rfl hatt hlast

theorem State.attemptResult_lanesOk {s : State} (hs : s.LanesOk) {e : Execution} (he : s.exec = some e)
    (r : AttemptResult) : (s.attemptResult e r).LanesOk := by
  have hgap := s.enterGap_aside
  unfold State.attemptResult
  dsimp only
  split
  next g n _ =>
    have hcount := hgap.trans (State.updateStation_aside s.enterGap g n r.valid)
    exact State.countResult_lanesOk (hcount.lanesOk hs) (hcount.exec.trans he) r _
  · exact hgap.lanesOk hs

/-- A grant withdrawn leaves no lane with it (R65, R109). -/
theorem State.withdraw_vacant {s : State} (hs : s.LanesOk) : s.withdraw.Vacant := by
  obtain ⟨he, h⟩ | ⟨e, he, ⟨l, hl, hr, h⟩ | ⟨l, hl, hr, h⟩ | ⟨k, hk, h⟩ | ⟨hd, h⟩ | ⟨hp, h⟩⟩ := s.withdraw_cases <;> rw [h]
  · exact hs.vacant_of_none he
  · exact ((State.settleToggle_aside _ _ _).between (hs.between he hl)).leaveStopping
  · have hbetween := hs.between he hl
    have hrun : (s.lane l).run = .running := ((hbetween.runs l).mpr rfl).resolve_right hr
    exact hbetween.rest hrun ((hs.base.lanes l).suspended hrun) (by simp)
  · exact hs.keepAtHead he hk rfl (hs.execution he).1 none
  · exact (State.settleToggle_aside _ _ _).vacant (hs.vacant he (by simp [hd]))
  · exact hs.vacant he (by simp [hp])

/-! ### The link's operations -/

theorem State.goOff_lanesOk {s : State} (hs : s.LanesOk) : s.goOff.Vacant := by
  rw [State.goOff_eq]
  refine (State.readyHeld_aside _ _ _).vacant ?_
  exact Aside.vacant (s := s.withdraw) (.of_eq rfl rfl rfl rfl) (State.withdraw_vacant hs)

theorem State.announceFault_aside (s : State) : Aside s s.announceFault := by
  rw [State.announceFault_eq]
  exact .of_eq rfl rfl rfl rfl

theorem State.faulted_vacant {s : State} (hs : s.LanesOk) : s.faulted.Vacant := by
  have h := s.withdraw.announceFault_aside.vacant (State.withdraw_vacant hs)
  exact Aside.vacant (s := s.withdraw.announceFault) (.of_eq rfl rfl rfl rfl) h

theorem State.enterFaulted_vacant {s : State} (hs : s.LanesOk) : s.enterFaulted.Vacant := by
  have h := State.faulted_vacant hs
  rw [State.enterFaulted_eq]
  split
  · exact State.goOff_lanesOk h.lanesOk
  · exact h

theorem State.beginLineReset_vacant {s : State} (hs : s.LanesOk) : s.beginLineReset.Vacant := by
  obtain ⟨-, h⟩ | ⟨-, h⟩ := s.beginLineReset_cases <;> rw [h]
  · exact State.enterFaulted_vacant hs
  · exact Aside.vacant (s := s.withdraw) (.of_eq rfl rfl rfl rfl) (State.withdraw_vacant hs)

theorem State.recovered_aside (s : State) : Aside s s.recovered := by
  rw [State.recovered, State.announceRecovery_eq]
  exact .of_eq rfl rfl rfl rfl

theorem State.completeLineReset_lanesOk {s : State} (hs : s.LanesOk) : s.completeLineReset.LanesOk := by
  have h := s.recovered_aside.lanesOk hs
  rw [State.completeLineReset_eq]
  split
  · exact (State.goOff_lanesOk h).lanesOk
  · exact h

/-- The attempt of the step in execution begins, or its frame's data is taken (R99). -/
theorem State.LanesOk.attempt {s : State} (hs : s.LanesOk) {e e' : Execution} (he : s.exec = some e)
    (hh : e'.holder = e.holder) (ha : e'.attempts = e.attempts) (hl : e'.limit = e.limit) (hst : e'.step = e.step)
    (hf : e.inFlight = true → e'.inFlight = true) : State.LanesOk { s with exec := some e' } := by
  refine State.lanesOk_of ⟨hs.base.lanes, hs.base.direct, hs.base.held⟩ (fun l => ?_) fun x hx => ?_
  · have hr := hs.runs_iff l
    rw [he] at hr
    simp only [Option.any_some] at hr ⊢
    rw [hh]
    exact hr
  · obtain rfl := Option.some.inj hx
    obtain ⟨hatt, hlim, hb⟩ := hs.execution he
    refine ⟨by omega, by omega, ?_⟩
    unfold Execution.brought at hb ⊢
    rw [hh, hl, hst]
    cases hk : e.holder with
    | discarded => exact hf (by simpa [hk] using hb)
    | _ =>
      rw [hk] at hb
      exact hb

theorem State.frameStart_lanesOk {s t : State} {e : Execution} (hs : s.LanesOk) (he : s.exec = some e)
    (h : s.frameStart e = some t) : t.LanesOk := by
  obtain ⟨-, hn⟩ | ⟨data, -, ⟨-, hf⟩ | ⟨-, hf⟩⟩ := s.frameStart_cases e
  · simp [hn] at h
  all_goals
    obtain rfl := Option.some.inj (hf.symm.trans h)
    have hcap : State.LanesOk { s with exec := some { e with inFlight := true, captured := ⟨data, s.frameToggle e⟩ } } :=
      hs.attempt he rfl rfl rfl rfl fun _ => rfl
  · exact (State.enterFaulted_vacant hcap).lanesOk
  · exact Aside.lanesOk (.of_eq rfl rfl rfl rfl) hcap

theorem State.drive_lanesOk (k : Nat) : ∀ {s : State}, s.LanesOk → (State.drive k s).LanesOk := by
  induction k with
  | zero => exact fun hs => hs
  | succ k ih =>
    intro s hs
    obtain h | ⟨e, o, he, -, -, h⟩ | ⟨e, g, he, -, -, -, -, h⟩ | ⟨e, t, he, -, -, -, ht, h⟩ := s.drive_succ_cases k <;>
      rw [h]
    · exact hs
    · exact ih (State.stepEnd_lanesOk hs he rfl o [])
    · exact Aside.lanesOk (s := { s with exec := some { e with inFlight := true } }) (.of_eq rfl rfl rfl rfl)
        (hs.attempt he rfl rfl rfl rfl fun _ => rfl)
    · exact State.frameStart_lanesOk hs he ht

theorem State.lineFree_lanesOk {s : State} (hs : s.LanesOk) : s.lineFree.LanesOk := by
  unfold State.lineFree
  split
  · exact (State.goOff_lanesOk hs).lanesOk
  · exact State.drive_lanesOk _ (Aside.lanesOk (s := s) (.of_eq rfl rfl rfl rfl) hs)

theorem State.endBroadcast_lanesOk {s : State} (hs : s.LanesOk) : s.endBroadcast.LanesOk := by
  unfold State.endBroadcast
  split
  next e he =>
    split
    · exact State.stepEnd_lanesOk (e := { e with attempts := 1 }) hs he rfl _ _
    · exact hs
  · exact hs

end Sys2Proof.Machine
end


section
/-! SUPPORT. Events, requests, ports and resets over the agreement of lanes, executor and ports, and the statement about it. -/

set_option Elab.async false

variable {reach : Nat}

namespace Sys2Proof.Machine

/-! ### Triggers and retry waits -/

/-- A lane out of the executor's hands changes and stays out of them. -/
theorem State.LanesOk.restLane {s : State} (hs : s.LanesOk) (l : LaneId) {y : Lane} (hy : y.Ok) (hr : ¬ s.Runs l)
    (hrest : y.run ≠ .running ∧ y.run ≠ .stopping) : (s.setLane l y).LanesOk :=
  hs.setLane l hy ⟨fun h => (h.elim hrest.1 hrest.2).elim, fun h => (hr h).elim⟩ (fun h => absurd (.inr h) hr)
    fun h => absurd h hr

/-- A lane record changes where neither its run state, its step nor its limit does. -/
theorem State.LanesOk.noteLane {s : State} (hs : s.LanesOk) (l : LaneId) {y : Lane} (hy : y.Ok)
    (hrun : y.run = (s.lane l).run) (hstep : y.atStep = (s.lane l).atStep)
    (hlimit : y.config.limit = (s.lane l).config.limit) : (s.setLane l y).LanesOk :=
  hs.setLane l hy (by rw [hrun]; exact Iff.rfl) (fun h => hrun.trans h) fun _ => ⟨hstep, hlimit⟩

theorem State.not_runs {s : State} {l : LaneId} {r : RunState} (hr : (s.lane l).run = r)
    (hn : r ≠ .running ∧ r ≠ .stopping) : ¬ s.Runs l := by
  unfold State.Runs
  rw [hr]
  exact fun h => h.elim hn.1 hn.2

/-- A trigger arrival leaves the executor alone, whatever the lane's run state (R44). -/
theorem State.arrive_lanesOk {s : State} (hs : s.LanesOk) (l : LaneId) : (s.arrive l).1.LanesOk := by
  have hx := hs.base.lanes l
  have noted (hr : (s.lane l).run.inPass = true) (hb : (s.lane l).run ≠ .atBreak) :
      (if (s.lane l).pending = true then (s.countOverrun l, RunEffect.overrun)
        else (s.setLane l { s.lane l with pending := true }, .pending)).1.LanesOk := by
    split
    · obtain ⟨n, h⟩ := s.countOverrun_aside l
      exact h.lanesOk (hs.noteLane l (hx.counted n) rfl rfl rfl)
    · exact hs.noteLane l (hx.noted (p := true) (d := (s.lane l).disarmAtEnd) hr fun h => absurd h hb) rfl rfl rfl
  unfold State.arrive
  dsimp only
  split
  · exact hs
  · exact hs
  · exact hs
  next hr =>
    obtain ⟨y, hy, hrun, h⟩ := s.passStart_aside l (hx.startable hr)
    refine h.lanesOk (hs.restLane l hy (State.not_runs hr (by simp)) ?_)
    obtain hrun | hrun := hrun <;> simp [hrun]
  next hr => exact hs.restLane l (hx.continued hr) (State.not_runs hr (by simp)) (by simp)
  all_goals
    next hr => exact noted (by rw [hr]; rfl) (by simp [hr])

theorem State.deliver_lanesOk {s : State} (hs : s.LanesOk) (listens : TriggerSource → Bool) :
    (s.deliver listens).LanesOk := by
  refine State.eachLane_keeps (fun l u hu => ?_) hs
  split
  · exact State.arrive_lanesOk hu l
  · exact hu

theorem execTrgSample_lanesOk {s t : State} {x : Fin 4} {v : Level} (hs : s.LanesOk) (he : execTrgSample x v s = .next t) :
    t.LanesOk := by
  have sampled (m : Table 4 Sampler) : State.LanesOk { s with samplers := m } := Aside.lanesOk (.of_eq rfl rfl rfl rfl) hs
  unfold execTrgSample at he
  dsimp only at he
  split at he
  · obtain rfl := Host.Outcome.next.inj he
    exact hs
  · split at he <;> obtain rfl := Host.Outcome.next.inj he
    · exact State.deliver_lanesOk (sampled _) _
    · exact sampled _

theorem execTimerExpiry_lanesOk {s t : State} {x : Fin 4} (hs : s.LanesOk) (he : execTimerExpiry x s = .next t) :
    t.LanesOk := by
  have reloaded (y : IntervalTimer) : (s.setTimer x y).LanesOk := Aside.lanesOk (s := s) (.of_eq rfl rfl rfl rfl) hs
  unfold execTimerExpiry at he
  dsimp only at he
  split at he <;> obtain rfl := Host.Outcome.next.inj he
  · exact State.deliver_lanesOk (reloaded _) _
  · exact hs

theorem execChainTrigger_lanesOk {s t : State} {y : LaneId} (hs : s.LanesOk) (he : execChainTrigger y s = .next t) :
    t.LanesOk := by
  have taken (due : List LaneId) : State.LanesOk { s with chainDue := due } :=
    Aside.lanesOk (s := s) (.of_eq rfl rfl rfl rfl) hs
  unfold execChainTrigger at he
  split at he <;> obtain rfl := Host.Outcome.next.inj he
  · exact State.deliver_lanesOk (taken _) _
  · exact hs

/-- A change of one direct queue that keeps what its head is to the executor. -/
theorem State.LanesOk.setDirectQueue {s : State} (hs : s.LanesOk) (k : HostId) {q : List DirectRequest}
    (hq : ∀ r ∈ q, r.attempts < r.limit ∧ r.limit ≤ 8)
    (hhead : ∀ n, (s.directQueue k).head?.any (fun r => r.retryLeft.isNone && n == r.limit) = true
      → q.head?.any (fun r => r.retryLeft.isNone && n == r.limit) = true) : (s.setDirectQueue k q).LanesOk := by
  refine State.lanesOk_of ⟨hs.base.lanes, fun j r hr => ?_, hs.base.held⟩ hs.runs_iff fun e he => ?_
  · by_cases hk : k = j
    · subst hk; exact hq r (by simpa using hr)
    · exact hs.base.direct j r (by simpa [hk] using hr)
  · obtain ⟨hatt, hlim, hb⟩ := hs.execution he
    refine ⟨hatt, hlim, ?_⟩
    unfold Execution.brought at *
    cases hh : e.holder with
    | direct j =>
      simp only [hh] at hb ⊢
      by_cases hk : k = j
      · subst hk
        simpa using hhead e.limit hb
      · simpa [hk] using hb
    | lane l =>
      simp only [hh] at hb ⊢
      exact hb
    | _ => simpa only [hh] using hb

theorem execRetryExpiry_lanesOk {s t : State} {who : RetryHolder} (hs : s.LanesOk) (he : execRetryExpiry who s = .next t) :
    t.LanesOk := by
  unfold execRetryExpiry at he
  split at he
  next l =>
    dsimp only at he
    split at he <;> obtain rfl := Host.Outcome.next.inj he
    next hr => exact hs.restLane l ((hs.base.lanes l).retried hr) (State.not_runs hr (by simp)) (by simp)
    · exact hs
  next k =>
    split at he <;> obtain rfl := Host.Outcome.next.inj he
    next r rest hq =>
      refine hs.setDirectQueue k (fun r' hr' => ?_) fun n hn => ?_
      · obtain rfl | hr' := List.mem_cons.mp hr'
        · exact hs.base.direct k r (by simp [hq])
        · exact hs.base.direct k r' (by simp [hq, hr'])
      · rw [hq] at hn
        simpa using (Bool.and_eq_true_iff.mp hn).2
    · exact hs

/-! ### The line's events -/

theorem execGrant_lanesOk {s t : State} {fda : Level} (hs : s.LanesOk) (he : execGrant fda s = .next t) : t.LanesOk := by
  unfold execGrant at he
  split at he
  next c hc =>
    split at he <;> obtain rfl := Host.Outcome.next.inj he
    next hg =>
      have hnone : s.exec = none := by
        simp only [State.grantPoint, Bool.and_eq_true, Option.isNone_iff_eq_none] at hg
        exact hg.1.2
      have hfree : State.Vacant { s with fda := fda } :=
        Aside.vacant (s := s) (.of_eq rfl rfl rfl rfl) (hs.vacant_of_none hnone)
      exact State.drive_lanesOk _ (hfree.giveGrant hc)
    · exact hs
  · obtain rfl := Host.Outcome.next.inj he
    exact hs

theorem execSegmentGuardEnd_lanesOk {s t : State} {fda : Level} (hs : s.LanesOk)
    (he : execSegmentGuardEnd fda s = .next t) : t.LanesOk := by
  have read : State.LanesOk { s with fda := fda } := Aside.lanesOk (s := s) (.of_eq rfl rfl rfl rfl) hs
  unfold execSegmentGuardEnd at he
  split at he
  next e _ hx =>
    dsimp only at he
    split at he <;> obtain rfl := Host.Outcome.next.inj he
    next ht => exact State.frameStart_lanesOk read hx ht
    · exact State.lineFree_lanesOk (State.stepEnd_lanesOk read hx rfl _ _)
  · obtain rfl := Host.Outcome.next.inj he
    exact hs

theorem execFrameFullySent_lanesOk {s t : State} (hs : s.LanesOk) (he : execFrameFullySent s = .next t) : t.LanesOk := by
  unfold execFrameFullySent at he
  split at he
  next e _ hx =>
    have sent : State.LanesOk { s with exec := some { e with fullySent := true } } := hs.attempt hx rfl rfl rfl rfl id
    dsimp only at he
    split at he <;> obtain rfl := Host.Outcome.next.inj he
    · exact Aside.lanesOk (State.enterGap_aside _) sent
    · exact Aside.lanesOk (.of_eq rfl rfl rfl rfl) sent
  · obtain rfl := Host.Outcome.next.inj he
    exact hs

theorem execReplyStartMark_lanesOk {s t : State} (hs : s.LanesOk) (he : execReplyStartMark s = .next t) : t.LanesOk := by
  unfold execReplyStartMark at he
  split at he <;> obtain rfl := Host.Outcome.next.inj he
  · exact Aside.lanesOk (s := s) (.of_eq rfl rfl rfl rfl) hs
  · exact Aside.lanesOk (s := s) (.of_eq rfl rfl rfl rfl) hs
  · exact hs

theorem execReplyTimeout_lanesOk {s t : State} (hs : s.LanesOk) (he : execReplyTimeout s = .next t) : t.LanesOk := by
  unfold execReplyTimeout at he
  split at he <;> obtain rfl := Host.Outcome.next.inj he
  next hx => exact State.attemptResult_lanesOk hs hx _
  · exact hs

theorem execReplyEnd_lanesOk {s t : State} {reply : ReplyWire} (hs : s.LanesOk) (he : execReplyEnd reply s = .next t) :
    t.LanesOk := by
  unfold execReplyEnd at he
  split at he
  next hx =>
    split at he <;> obtain rfl := Host.Outcome.next.inj he
    · exact State.attemptResult_lanesOk hs hx _
    · exact hs
  · obtain rfl := Host.Outcome.next.inj he
    exact hs

theorem execGapEnd_lanesOk {s t : State} {fda : Level} (hs : s.LanesOk) (he : execGapEnd fda s = .next t) : t.LanesOk := by
  unfold execGapEnd at he
  split at he <;> obtain rfl := Host.Outcome.next.inj he
  · exact State.lineFree_lanesOk (State.endBroadcast_lanesOk (Aside.lanesOk (s := s) (.of_eq rfl rfl rfl rfl) hs))
  · exact hs

theorem State.enterFaulted_lanesOk {s : State} (hs : s.LanesOk) (fda : Level) :
    { s with fda := fda }.enterFaulted.LanesOk :=
  (State.enterFaulted_vacant (s := { s with fda := fda }) (Aside.lanesOk (s := s) (.of_eq rfl rfl rfl rfl) hs)).lanesOk

theorem execLineFault_lanesOk {s t : State} (hs : s.LanesOk) (he : execLineFault s = .next t) : t.LanesOk := by
  unfold execLineFault at he
  split at he <;> obtain rfl := Host.Outcome.next.inj he
  · exact State.enterFaulted_lanesOk hs _
  · exact State.enterFaulted_lanesOk hs _
  · exact State.enterFaulted_lanesOk hs _
  · exact State.enterFaulted_lanesOk hs _
  · exact hs

theorem execLineResetGuardEnd_lanesOk {s t : State} {fda : Level} (hs : s.LanesOk)
    (he : execLineResetGuardEnd fda s = .next t) : t.LanesOk := by
  unfold execLineResetGuardEnd at he
  split at he
  · dsimp only at he
    split at he <;> obtain rfl := Host.Outcome.next.inj he
    · exact State.enterFaulted_lanesOk hs _
    · exact Aside.lanesOk (s := s) (.of_eq rfl rfl rfl rfl) hs
  · obtain rfl := Host.Outcome.next.inj he
    exact hs

theorem execLineResetHoldEnd_lanesOk {s t : State} {fda : Level} (hs : s.LanesOk)
    (he : execLineResetHoldEnd fda s = .next t) : t.LanesOk := by
  unfold execLineResetHoldEnd at he
  split at he
  · dsimp only at he
    split at he
    · obtain rfl := Host.Outcome.next.inj he
      exact State.enterFaulted_lanesOk hs _
    · split at he <;> obtain rfl := Host.Outcome.next.inj he
      · exact Aside.lanesOk (s := s) (.of_eq rfl rfl rfl rfl) hs
      · exact State.completeLineReset_lanesOk (Aside.lanesOk (s := s) (.of_eq rfl rfl rfl rfl) hs)
  · obtain rfl := Host.Outcome.next.inj he
    exact hs

/-- The other events touch neither lanes, direct queues nor executor. -/
theorem exec_aside_of_occurs {i : Instr} {s t : State} (he : exec i s = .next t)
    (hi : i = .probeTimerExpiry ∨ i = .leaseExpiry ∨ i = .recoveryWatchRestart ∨ i = .recoveryWatchExpiry
      ∨ i = .lineResetDriveEnd) : Aside s t := by
  obtain rfl | rfl | rfl | rfl | rfl := hi
  · change execProbeTimerExpiry s = .next t at he
    unfold execProbeTimerExpiry at he
    split at he <;> obtain rfl := Host.Outcome.next.inj he
    · exact .of_eq rfl rfl rfl rfl
    · exact .refl s
  · change execLeaseExpiry s = .next t at he
    unfold execLeaseExpiry at he
    split at he
    · split at he <;> obtain rfl := Host.Outcome.next.inj he
      · exact Aside.trans (t := { s with lease := none }) (.of_eq rfl rfl rfl rfl) (State.queueEvent_aside _ _ _)
      · exact .refl s
    · obtain rfl := Host.Outcome.next.inj he
      exact .refl s
  · change execRecoveryWatchRestart s = .next t at he
    unfold execRecoveryWatchRestart at he
    split at he <;> obtain rfl := Host.Outcome.next.inj he
    · exact .of_eq rfl rfl rfl rfl
    · exact .refl s
  · change execRecoveryWatchExpiry s = .next t at he
    unfold execRecoveryWatchExpiry at he
    split at he
    · split at he <;> obtain rfl := Host.Outcome.next.inj he
      · exact .of_eq rfl rfl rfl rfl
      · exact .refl s
    · obtain rfl := Host.Outcome.next.inj he
      exact .refl s
  · change execLineResetDriveEnd s = .next t at he
    unfold execLineResetDriveEnd at he
    split at he <;> obtain rfl := Host.Outcome.next.inj he
    · exact .of_eq rfl rfl rfl rfl
    · exact .refl s

theorem exec_lanesOk_of_occurs {i : Instr} (hi : i.occurs = true) {s t : State} (he : exec i s = .next t) (hs : s.LanesOk) :
    t.LanesOk := by
  cases i
  case trgSample => exact execTrgSample_lanesOk hs he
  case timerExpiry => exact execTimerExpiry_lanesOk hs he
  case chainTrigger => exact execChainTrigger_lanesOk hs he
  case retryExpiry => exact execRetryExpiry_lanesOk hs he
  case grant => exact execGrant_lanesOk hs he
  case segmentGuardEnd => exact execSegmentGuardEnd_lanesOk hs he
  case frameFullySent => exact execFrameFullySent_lanesOk hs he
  case replyStartMark => exact execReplyStartMark_lanesOk hs he
  case replyTimeout => exact execReplyTimeout_lanesOk hs he
  case replyEnd => exact execReplyEnd_lanesOk hs he
  case gapEnd => exact execGapEnd_lanesOk hs he
  case lineFault => exact execLineFault_lanesOk hs he
  case lineResetGuardEnd => exact execLineResetGuardEnd_lanesOk hs he
  case lineResetHoldEnd => exact execLineResetHoldEnd_lanesOk hs he
  case probeTimerExpiry => exact (exec_aside_of_occurs he (by simp)).lanesOk hs
  case leaseExpiry => exact (exec_aside_of_occurs he (by simp)).lanesOk hs
  case recoveryWatchRestart => exact (exec_aside_of_occurs he (by simp)).lanesOk hs
  case recoveryWatchExpiry => exact (exec_aside_of_occurs he (by simp)).lanesOk hs
  case lineResetDriveEnd => exact (exec_aside_of_occurs he (by simp)).lanesOk hs
  all_goals exact absurd hi (by simp [Instr.occurs])

end Sys2Proof.Machine
end


section
/-! SUPPORT. Requests, the port unit and resets over the agreement of lanes, executor and ports, and the statement about it. -/

set_option Elab.async false

variable {reach : Nat}

namespace Sys2Proof.Machine

/-! ### Lane records under requests -/

theorem RunState.editable_cases {r : RunState} (he : r.editable = true) : r = .idle ∨ r = .armed ∨ r = .halted := by
  cases r <;> simp [RunState.editable] at he ⊢

section
variable {x : Lane} (hx : x.Ok)
include hx

theorem Lane.Ok.owned (h : HostId) : ({ x with condition := .owned h } : Lane).Ok := by
  unfold Lane.Ok at *
  simp_all [Lane.atStep]

/-- A lane loses its owner where it is idle or being stopped (R41). -/
theorem Lane.Ok.orphaned (hr : x.run = .idle ∨ x.run = .stopping) : ({ x with condition := .orphan } : Lane).Ok := by
  unfold Lane.Ok at *
  obtain hr | hr := hr <;> simp_all [Lane.atStep, RunState.inPass]

theorem Lane.Ok.configured {c : LaneConfig} (hr : x.run = .idle ∨ x.run = .halted) (hc : 1 ≤ c.limit ∧ c.limit ≤ 8) :
    ({ x with config := c } : Lane).Ok := by
  have hnone := hx.held_eq_none (by obtain hr | hr := hr <;> simp [hr])
  unfold Lane.Ok at *
  simp_all [Lane.atStep]

theorem Lane.Ok.reprogrammed {p : List Step} (hc : x.condition ≠ .free) (he : x.run.editable = true)
    (hl : p.length ≤ Config.programMax) : ({ x with program := p } : Lane).Ok := by
  have hr := RunState.editable_cases he
  have hnone := hx.held_eq_none (by obtain hr | hr | hr := hr <;> simp [hr])
  unfold Lane.Ok at *
  obtain hr | hr | hr := hr <;> simp_all [Lane.atStep, RunState.inPass]

/-- A program of the same length with the same kind of step at the lane's position (R17). -/
theorem Lane.Ok.patched {p : List Step} (hc : x.condition ≠ .free) (hl : p.length = x.program.length)
    (hs : ({ x with program := p } : Lane).atStep = x.atStep) : ({ x with program := p } : Lane).Ok := by
  unfold Lane.Ok at *
  simp only [hs, hl]
  simp_all

theorem Lane.Ok.subscribed {t : Table 4 Bool} (ht : x.condition = .free → t = fill 4 false) :
    ({ x with subscribers := t } : Lane).Ok := by
  unfold Lane.Ok at *
  simp_all [Lane.atStep]

end

theorem Lane.fresh_ok : Lane.fresh.Ok := by
  unfold Lane.Ok
  simp [Lane.fresh, LaneConfig.default, RunState.hasBank, RunState.inPass]

theorem Step.patched_segment {data : List Byte} {old st : Step} (h : old.patched data = some st) :
    st.segment.isSome = old.segment.isSome := by
  cases old <;> simp only [Step.patched, reduceCtorEq, Option.some.injEq] at h <;> subst h <;> rfl

theorem Lane.atStep_patched {x : Lane} {p : Nat} {data : List Byte} {old st : Step} (hp : x.program[p]? = some old)
    (hs : old.patched data = some st) : ({ x with program := x.program.set p st } : Lane).atStep = x.atStep := by
  have hseg := Step.patched_segment hs
  unfold Lane.atStep
  simp only [List.getElem?_set]
  by_cases e : p = x.position
  · subst e
    obtain ⟨hlt, hget⟩ := List.getElem?_eq_some_iff.mp hp
    simp [hlt, hget, hseg]
  · simp [e]

/-- A configuration entry leaves the attempt limit between 1 and 8 (R31). -/
theorem RawConfig.apply_limit {c c' : LaneConfig} {e : RawConfig} (h : RawConfig.apply c e = some c')
    (hc : 1 ≤ c.limit ∧ c.limit ≤ 8) : 1 ≤ c'.limit ∧ c'.limit ≤ 8 := by
  cases e with
  | limit v =>
    simp only [RawConfig.apply, Option.ite_none_right_eq_some] at h
    obtain ⟨hv, h⟩ := h
    obtain rfl := Option.some.inj h
    exact hv
  | interval v =>
    simp only [RawConfig.apply, Option.ite_none_right_eq_some] at h
    obtain rfl := Option.some.inj h.2
    exact hc
  | priority v =>
    obtain ⟨p, -, rfl⟩ := Option.map_eq_some_iff.mp h
    exact hc
  | source kind detail =>
    obtain ⟨p, -, rfl⟩ := Option.map_eq_some_iff.mp h
    exact hc
  | mode v | resume v | onError v =>
    simp only [RawConfig.apply] at h
    split at h <;> simp only [Option.some.injEq, reduceCtorEq] at h <;> subst h <;> exact hc

theorem applyConfig_limit {entries : List RawConfig} : ∀ {c c' : LaneConfig}, applyConfig c entries = some c' →
    1 ≤ c.limit ∧ c.limit ≤ 8 → 1 ≤ c'.limit ∧ c'.limit ≤ 8 := by
  induction entries with
  | nil =>
    intro c c' h hc
    obtain rfl := Option.some.inj h
    exact hc
  | cons e rest ih =>
    intro c c' h hc
    rw [applyConfig] at h
    split at h
    next d hd => exact ih h (RawConfig.apply_limit hd hc)
    · simp at h

theorem newConfig_limit {c c' : LaneConfig} {entries : List RawConfig} (h : newConfig c entries = some c')
    (hc : 1 ≤ c.limit ∧ c.limit ≤ 8) : 1 ≤ c'.limit ∧ c'.limit ≤ 8 := by
  unfold newConfig at h
  split at h
  · exact applyConfig_limit h hc
  · simp at h

/-! ### Stops -/

/-- A lane that keeps its owner, or loses it, comes to rest or to STOPPING as another does. -/
theorem Lane.Ok.recast {x : Lane} (hx : x.Ok) {c : Condition} (hc : c = x.condition ∨ c = .orphan)
    (hr : x.run = .idle ∨ x.run = .stopping) : ({ x with condition := c } : Lane).Ok := by
  obtain rfl | rfl := hc
  · exact hx
  · exact hx.orphaned hr

/-- A lane is stopped, with its owner or just without (R35, R36, R41). -/
theorem State.stopLane_lanesOk {s u : State} {l : LaneId} {c : Condition} (hs : s.LanesOk)
    (hc : c = (s.lane l).condition ∨ c = .orphan) (hu : Aside (s.setLane l { s.lane l with condition := c }) u) :
    (u.stopLane l).LanesOk := by
  have hx := hs.base.lanes l
  have hlane : u.lane l = { s.lane l with condition := c } := by rw [hu.lane]; simp
  have rest {y : Lane} (hy : y.Ok) (hyc : y.condition = c) (hyr : y.run = .idle) (hr : ¬ s.Runs l) {v : State}
      (hv : Aside (u.setLane l y) v) : v.LanesOk :=
    ((hu.setLane y).trans hv).lanesOk (hs.restLane l hy hr (by simp [hyr]))
  obtain ⟨hr, h⟩ | ⟨hr, h⟩ | ⟨hr, h⟩ | ⟨hr, -, h⟩ | ⟨hr, -, h⟩ | ⟨hr, h⟩ := u.stopLane_cases l <;>
    rw [h] <;> simp only [hlane] at hr
  · exact hu.lanesOk (hs.noteLane l (hx.recast hc hr) rfl rfl rfl)
  · refine rest ?_ ?_ ?_ (State.not_runs hr (by simp)) (.refl _)
    · rw [hlane]
      exact (hx.disarmed hr).recast hc (.inl rfl)
    · rw [hlane]
    · rfl
  · refine rest ?_ ?_ ?_ (State.not_runs hr (by simp)) (.refl _)
    · rw [hlane]
      exact (hx.homed hr).recast hc (.inl rfl)
    · rw [hlane]
    · rfl
  · refine (hu.setLane _).lanesOk ?_
    rw [hlane]
    refine hs.setLane l ((hx.stopping hr).recast hc (.inr rfl)) ?_ (fun _ => rfl) fun _ => ⟨rfl, rfl⟩
    simp [State.Runs, hr]
  · have settled := u.settleStopped_aside l
    have hlanes (m : LaneId) : (u.settleStopped l).lane m = if l = m then { s.lane m with condition := c } else s.lane m := by
      rw [settled.lane, hu.lane]
      split
      next e => subst e; simp
      next e => simp [e]
    have hexec : (u.settleStopped l).exec = s.exec := settled.exec.trans hu.exec
    have hall := hs.runs_iff
    have hholds : s.exec.any (fun e => e.holder == .lane l) = true := (hall l).mp (.inl hr)
    refine (State.leaveStopping_vacant ?_ (fun m e => ⟨?_, fun hm => e ?_⟩) (fun k r hr => hs.base.direct k r ?_)
      (fun k m e hw => ?_) ?_).lanesOk
    · rw [hlanes, if_pos rfl]
      exact hx.stopped.recast hc (.inl rfl)
    · rw [hlanes, if_neg e]
      exact hs.base.lanes m
    · have hm : s.Runs m := by
        unfold State.Runs at hm ⊢
        rwa [hlanes, if_neg e] at hm
      have := (hall m).mp hm
      cases he : s.exec with
      | none => simp [he] at this
      | some x =>
        simp only [he, Option.any_some, beq_iff_eq] at this hholds
        rw [this] at hholds
        exact (Holder.lane.inj hholds).symm
    · rwa [settled.directQueue, hu.directQueue] at hr
    · rw [hlanes, if_neg e]
      refine hs.base.held k m ?_
      obtain h' | h' := (hu.trans settled).waits k <;> rw [h'] at hw
      · exact hw
      · simp at hw
    · obtain ⟨e, -, -, h'⟩ | ⟨hn, -⟩ := (u.settleStopped l).releaseLane_cases l
      · rw [h']
      · rw [hexec, hholds] at hn
        simp at hn
  · refine rest (y := (u.lane l).stopped) ?_ ?_ rfl ?_ (u.stopAtOnce_aside l)
    · rw [hlane]
      exact hx.stopped.recast hc (.inl rfl)
    · rw [hlane]; rfl
    · obtain hr | hr | hr | hr | hr := hr <;> exact State.not_runs hr (by simp)

/-! ### Requests -/

theorem Edit.lanesOk {h : HostId} {s t : State} (he : Edit h s t) (hs : s.LanesOk) : t.LanesOk := by
  have hbase := hs.base
  have same {u : State} (hl : u.lanes = s.lanes) (hd : u.direct = s.direct) (he : u.exec = s.exec)
      (hp : u.ports = s.ports) : u.LanesOk := (Aside.of_eq hl hd he hp).lanesOk hs
  -- a lane record changes along with the pool's accounts
  have note (l : LaneId) {y : Lane} {u : State} (hu : Aside (s.setLane l y) u) (hy : y.Ok)
      (hrun : y.run = (s.lane l).run) (hstep : y.atStep = (s.lane l).atStep)
      (hlimit : y.config.limit = (s.lane l).config.limit) : u.LanesOk :=
    hu.lanesOk (hs.noteLane l hy hrun hstep hlimit)
  have rest (l : LaneId) {y : Lane} {u : State} (hu : Aside (s.setLane l y) u) (hy : y.Ok)
      (hr : (s.lane l).run = .idle ∨ (s.lane l).run = .armed ∨ (s.lane l).run = .halted)
      (hrest : y.run ≠ .running ∧ y.run ≠ .stopping) : u.LanesOk := by
    refine hu.lanesOk (hs.restLane l hy ?_ hrest)
    obtain hr | hr | hr := hr <;> exact State.not_runs hr (by simp)
  have edited (l : LaneId) {y : Lane} {u : State} (hu : Aside (s.setLane l y) u) (hy : y.Ok)
      (he : (s.lane l).run.editable = true) (hrun : y.run = (s.lane l).run) : u.LanesOk := by
    refine rest l hu hy (RunState.editable_cases he) ?_
    obtain hr | hr | hr := RunState.editable_cases he <;> simp [hrun, hr]
  cases he with
  | same => exact hs
  | claim l hc => exact rest l (.refl _) (Lane.fresh_ok.owned h) (.inl ((hbase.lanes l).1 hc).1) (by simp [Lane.fresh])
  | release l ho hr =>
    exact rest l (.of_eq rfl rfl rfl rfl) Lane.fresh_ok (by tauto) (by simp [Lane.fresh])
  | move l k => exact note l (.of_eq rfl rfl rfl rfl) ((hbase.lanes l).owned k) rfl rfl rfl
  | adopt l => exact note l (.of_eq rfl rfl rfl rfl) ((hbase.lanes l).owned h) rfl rfl rfl
  | config l entries c hc ho hr =>
    obtain ⟨-, -, -, -, -, -, -, -, -, -, hlimit, -⟩ := hbase.lanes l
    refine rest l (.refl _) ((hbase.lanes l).configured hr (newConfig_limit hc hlimit)) (by tauto) ?_
    obtain hr | hr := hr <;> simp [hr]
  | arm l ho hr =>
    exact rest l (.refl _) ((hbase.lanes l).armed hr (Lane.condition_of_owner ho)) (by tauto) (by simp)
  | disarm l ho hr => exact rest l (.refl _) ((hbase.lanes l).disarmed hr) (.inr (.inl hr)) (by simp)
  | disarmLater l ho hr =>
    have hb := (hbase.lanes l).2.2.2.2.2.2.1
    exact note l (.refl _) ((hbase.lanes l).noted (p := (s.lane l).pending) (d := true) hr hb) rfl rfl rfl
  | arrive l => exact State.arrive_lanesOk hs l
  | stop l =>
    refine State.stopLane_lanesOk (c := (s.lane l).condition) hs (.inl rfl) ?_
    exact .of_eq (congrArg State.lanes (s.setLane_lane l)).symm rfl rfl rfl
  | clearOverrun l => exact note l (.refl _) ((hbase.lanes l).counted 0) rfl rfl rfl
  | place l k program ho he hp hm =>
    exact edited l (.of_eq rfl rfl rfl rfl) ((hbase.lanes l).reprogrammed (Lane.not_free_of_owner ho) he hm) he rfl
  | free l k program ho he hp =>
    obtain ⟨-, -, -, -, -, -, -, -, hlen, -⟩ := hbase.lanes l
    exact edited l (.of_eq rfl rfl rfl rfl)
      ((hbase.lanes l).reprogrammed (Lane.not_free_of_owner ho) he (by omega)) he rfl
  | replace l p st ho he =>
    obtain ⟨-, -, -, -, -, -, -, -, hlen, -⟩ := hbase.lanes l
    exact edited l (.refl _) ((hbase.lanes l).reprogrammed (Lane.not_free_of_owner ho) he (by simpa using hlen)) he rfl
  | patch l p old st data ho hp hst =>
    have hat := Lane.atStep_patched hp hst
    exact note l (.refl _) ((hbase.lanes l).patched (Lane.not_free_of_owner ho) (by simp) hat) rfl hat rfl
  | subscribe l member hc => exact note l (.refl _) ((hbase.lanes l).subscribed fun e => absurd e hc) rfl rfl rfl
  | submit raw st limit interval tag hst hl hq =>
    refine hs.setDirectQueue h (fun r hr => ?_) fun n hn => ?_
    · obtain hr | hr := List.mem_append.mp hr
      · exact hbase.direct h r hr
      · obtain rfl := List.mem_singleton.mp hr
        exact ⟨hl.1, hl.2⟩
    · cases hq : s.directQueue h with
      | nil => simp [hq] at hn
      | cons r rest => simpa [hq] using hn
  | lineReset fda =>
    exact (State.beginLineReset_vacant (s := { s with fda := fda }) (same rfl rfl rfl rfl)).lanesOk
  | goOff => exact (State.goOff_lanesOk hs).lanesOk
  | settings entries r =>
    unfold State.writeSettings
    dsimp only
    split
    · exact same rfl rfl rfl rfl
    · exact same rfl rfl rfl rfl
  | _ => exact same rfl rfl rfl rfl

end Sys2Proof.Machine
end


section
/-! SUPPORT. The port unit and resets over the agreement of lanes, executor and ports; the statement about it, the power-on
state and `step`. -/

set_option Elab.async false

variable {reach : Nat}

namespace Sys2Proof.Machine

/-! ### Ports -/

theorem Aside.setPort (s : State) (h : HostId) {p : Port} (hp : p.waitsFor = (s.port h).waitsFor ∨ p.waitsFor = none) :
    Aside s (s.setPort h p) := by
  refine ⟨rfl, rfl, rfl, fun k => ?_⟩
  by_cases e : h = k
  · subst e; simpa using hp
  · simp [e]

/-- A lane that waits for a bank takes one or waits on (R122). -/
theorem State.LanesOk.takeBank {s : State} (hs : s.LanesOk) {l : LaneId} (hr : (s.lane l).run = .bankWait) :
    (s.takeBank l).LanesOk := by
  have hx := hs.base.lanes l
  have hrest := State.not_runs hr (by simp)
  obtain ⟨b, h⟩ | h := s.takeBank_aside l
  · exact h.lanesOk (hs.restLane l (hx.readied hr b) hrest (by simp))
  · exact h.lanesOk (hs.restLane l (hx.still hr) hrest (by simp))

theorem State.LanesOk.run_of_waiting {s : State} (hs : s.LanesOk) {l : LaneId} (hw : (s.lane l).waiting = true) :
    (s.lane l).run = .bankWait := by
  obtain ⟨-, -, -, hwait, -⟩ := hs.base.lanes l
  simpa [hw] using hwait

/-- A released pin leaves the lanes as they were, but for the one that waited for its bank. -/
theorem State.releasePin_lanesOk {s : State} (hs : s.LanesOk) (h : HostId) : (s.releasePin h).LanesOk := by
  obtain ⟨-, e⟩ | ⟨l, b, -, e⟩ := s.releasePin_cases h <;> rw [e]
  · exact hs
  · have unpinned : (s.setPort h { s.port h with pin := none }).LanesOk := 
      (Aside.setPort s h (p := { s.port h with pin := none }) (.inl rfl)).lanesOk hs
    split
    next hw => exact unpinned.takeBank (hs.run_of_waiting hw)
    · exact unpinned

theorem State.releasePin_stopping {s : State} (hs : s.LanesOk) (h : HostId) {l : LaneId}
    (hr : (s.lane l).run = .stopping) : ((s.releasePin h).lane l).run = .stopping := by
  obtain ⟨-, e⟩ | ⟨m, b, -, e⟩ := s.releasePin_cases h <;> rw [e]
  · exact hr
  · split
    next hw =>
      have hm := hs.run_of_waiting hw
      have hne : m ≠ l := by
        rintro rfl
        simp [hm] at hr
      obtain ⟨c, h'⟩ | h' := (s.setPort h { s.port h with pin := none }).takeBank_aside m <;> rw [h'.lane] <;>
        simpa [hne] using hr
    · exact hr

theorem PortAct.lanesOk {s t : State} (h : PortAct s t) (hs : s.LanesOk) : t.LanesOk := by
  cases h with
  | leave h r frame sticky hr => exact State.releasePin_lanesOk ((Aside.setPort s h (.inr rfl)).lanesOk hs) h
  | answer h st tag r hr hi hp => exact (Aside.setPort s h (.inr rfl)).lanesOk hs
  | port h p hst hp hc => exact (Aside.setPort s h (.inl (by rw [Port.waitsFor, Port.waitsFor, hst]))).lanesOk hs
  | fetched h count lost hi => exact Aside.lanesOk (s := s) (.of_eq rfl rfl rfl rfl) hs

theorem PortAct.stopping {s t : State} (h : PortAct s t) (hs : s.LanesOk) {l : LaneId}
    (hr : (s.lane l).run = .stopping) : (t.lane l).run = .stopping := by
  cases h with
  | leave h r frame sticky hready => exact State.releasePin_stopping ((Aside.setPort s h (.inr rfl)).lanesOk hs) h hr
  | _ => exact hr

/-! ### Resets -/

theorem State.emptyDirect_lanesOk {s : State} (hs : s.LanesOk) (h : HostId) : (s.emptyDirect h).LanesOk := by
  have settled {u : State} (hu : u.LanesOk) (st : Step) (sent : Bool) : (u.settleToggle st sent).LanesOk :=
    (u.settleToggle_aside st sent).lanesOk hu
  -- the queue is emptied while its head is not in execution
  have emptied (hx : ∀ e, s.exec = some e → e.holder ≠ .direct h) : (s.setDirectQueue h []).LanesOk := by
    refine State.lanesOk_of ⟨hs.base.lanes, fun k r hr => ?_, hs.base.held⟩ hs.runs_iff fun e he => ?_
    · by_cases e : h = k
      · subst e; simp at hr
      · exact hs.base.direct k r (by simpa [e] using hr)
    · obtain ⟨hatt, hlim, hb⟩ := hs.execution he
      refine ⟨hatt, hlim, ?_⟩
      unfold Execution.brought at *
      cases hh : e.holder with
      | direct k =>
        have hne : h ≠ k := fun hk => hx e he (by rw [hh, hk])
        simp only [hh] at hb ⊢
        rwa [State.directQueue_setDirectQueue_ne _ _ hne]
      | lane l =>
        simp only [hh] at hb ⊢
        exact hb
      | _ => simpa only [hh] using hb
  -- the head in execution goes on as a discarded request, or ends with it
  have headless {e : Execution} (he : s.exec = some e) (hh : e.holder = .direct h) :
      State.Vacant { s.setDirectQueue h [] with exec := none } := by
    have hfree := hs.vacant he (by simp [hh])
    exact hfree.setDirectQueue h (by simp)
  unfold State.emptyDirect
  dsimp only
  split
  next hq =>
    refine hs.setDirectQueue h (by simp) fun n hn => ?_
    simp [hq] at hn
  · split
    next e he =>
      have he : s.exec = some e := he
      split
      next hh =>
        split
        next hf =>
          have hok := hs.execution he
          exact (headless he hh).take (e := { e with holder := .discarded }) (.of_eq rfl rfl rfl rfl) (by simp)
            ⟨hok.1, hok.2.1⟩ hf
        · exact settled (headless he hh).lanesOk _ _
      next hh =>
        refine settled (emptied fun e' he' => ?_) _ _
        obtain rfl : e = e' := by simpa [he] using he'
        exact hh
    next he =>
      have he : s.exec = none := he
      exact settled (emptied fun e' he' => by simp [he] at he') _ _

theorem State.unsubscribe_lanesOk {s : State} (hs : s.LanesOk) (h : HostId) (l : LaneId) : (s.unsubscribe h l).LanesOk := by
  refine hs.noteLane l ((hs.base.lanes l).subscribed fun hc => ?_) rfl rfl rfl
  obtain ⟨hfree, -⟩ := hs.base.lanes l
  rw [(hfree hc).2.2.2]
  decide +revert

theorem State.orphanIfOwned_lanesOk {s : State} (hs : s.LanesOk) (h : HostId) (l : LaneId) :
    (s.orphanIfOwned h l).LanesOk := by
  unfold State.orphanIfOwned
  split
  · refine (State.queueAll_aside _ _).lanesOk ?_
    exact State.stopLane_lanesOk (u := s.disown h l) hs (.inr rfl) (.of_eq rfl rfl rfl rfl)
  · exact hs

theorem State.yieldLease_aside (s : State) (h : HostId) : Aside s (s.yieldLease h) := by
  unfold State.yieldLease
  split
  · exact .of_eq rfl rfl rfl rfl
  · exact .refl s

theorem State.resetPort_lanesOk {s : State} (hs : s.LanesOk) (h : HostId) : (s.resetPort h).LanesOk := by
  have closed : (s.closePort h).LanesOk := (Aside.setPort _ h (.inr rfl)).lanesOk (State.releasePin_lanesOk hs h)
  have cleared : ((s.closePort h).setMailbox h .fresh).LanesOk :=
    Aside.lanesOk (s := s.closePort h) (.of_eq rfl rfl rfl rfl) closed
  have left : (((s.closePort h).setMailbox h .fresh).unsubscribeAll h).LanesOk :=
    State.eachLane_keeps (P := State.LanesOk) (fun l u hu => State.unsubscribe_lanesOk hu h l) cleared
  rw [State.resetPort_eq]
  exact State.eachLane_keeps (P := State.LanesOk) (fun l u hu => State.orphanIfOwned_lanesOk hu h l)
    ((State.yieldLease_aside _ h).lanesOk (State.emptyDirect_lanesOk left h))

theorem State.reset_lanesOk : State.reset.LanesOk := by
  refine (State.Vacant.mk ⟨fun l => ?_, fun h r hr => ?_, fun h l hw => ?_⟩ rfl fun l => ?_).lanesOk
  · simpa [State.lane, State.reset] using Lane.fresh_ok
  · simp [State.directQueue, State.reset] at hr
  · simp [State.port, State.reset, Port.fresh, Port.waitsFor] at hw
  · simp [State.Runs, State.lane, State.reset, Lane.fresh]

theorem keptByCommands_lanesOk : KeptByCommands State.LanesOk where
  port _ _ h hs := h.lanesOk hs
  edit _ _ _ _ he hs := he.lanesOk hs
  hold h s k tag _ hf hs := by
    have ended : (s.discardUnread h).LanesOk
        ∧ ∀ l, (s.lane l).run = .stopping → ((s.discardUnread h).lane l).run = .stopping :=
      PortActs.keeps (P := fun u => u.LanesOk ∧ ∀ l, (s.lane l).run = .stopping → (u.lane l).run = .stopping)
        (fun _ _ huv hu => ⟨huv.lanesOk hu.1, fun l hl => huv.stopping hu.1 (hu.2 l hl)⟩)
        (s.discardUnread_acts h) ⟨hs, fun _ hl => hl⟩
    obtain ⟨hok, hstop⟩ := ended
    refine State.lanesOk_of ⟨hok.base.lanes, hok.base.direct, fun j l hw => ?_⟩ hok.runs_iff fun e he => hok.execution he
    by_cases e : h = j
    · subst e
      obtain rfl : k = .laneStop l := by simpa [State.hold, Port.waitsFor] using hw
      exact hstop l hf
    · exact hok.base.held j l (by simpa [State.hold, e] using hw)
  event _ _ _ hi he hs := exec_lanesOk_of_occurs hi he hs
  powerOn s t he hs := by
    obtain rfl := Host.Outcome.next.inj he
    refine Aside.lanesOk (s := State.reset) ⟨rfl, rfl, rfl, fun h => .inr ?_⟩ State.reset_lanesOk
    simp [State.port, Port.fresh, Port.waitsFor]
  powerOnRelease s t he hs := by
    unfold execPowerOnRelease at he
    split at he <;> obtain rfl := Host.Outcome.next.inj he
    · refine Aside.lanesOk (s := s) ⟨rfl, rfl, rfl, fun h => ?_⟩ hs
      simp only [State.port, look_map]
      split
      · exact .inr rfl
      · exact .inl rfl
    · exact hs
  portReset h s hs := State.resetPort_lanesOk hs h
  portResetRelease h s t he hs := by
    simp only [execPortResetRelease] at he
    split at he <;> obtain rfl := Host.Outcome.next.inj he
    · refine (Aside.setPort s h (.inr ?_)).lanesOk hs
      cases s.porLow <;> rfl
    · exact hs

theorem tickHead_attempts {q : List DirectRequest} {r : DirectRequest} (hr : r ∈ tickHead q) :
    ∃ r' ∈ q, r.attempts = r'.attempts ∧ r.limit = r'.limit := by
  cases q with
  | nil => simp [tickHead] at hr
  | cons x rest =>
    obtain rfl | hr := List.mem_cons.mp hr
    · exact ⟨x, by simp, rfl, rfl⟩
    · exact ⟨r, by simp [hr], rfl, rfl⟩

theorem tickHead_any (q : List DirectRequest) (n : Nat) :
    (tickHead q).head?.any (fun r => r.retryLeft.isNone && n == r.limit)
      = q.head?.any (fun r => r.retryLeft.isNone && n == r.limit) := by
  cases q with
  | nil => rfl
  | cons x rest => simp [tickHead]

theorem State.tick_lanesOk {s : State} (hs : s.LanesOk) : s.tick.LanesOk := by
  have hrun (l : LaneId) : (s.tick.lane l).run = (s.lane l).run := by rw [State.lane_tick]
  refine State.lanesOk_of ⟨fun l => ?_, fun h r hr => ?_, fun h l hw => ?_⟩ (fun l => ?_) fun e he => ?_
  · rw [State.lane_tick]
    exact hs.base.lanes l
  · rw [State.directQueue_tick] at hr
    obtain ⟨r', hr', hatt, hlim⟩ := tickHead_attempts hr
    rw [hatt, hlim]
    exact hs.base.direct h r' hr'
  · rw [hrun]
    rw [State.port_tick] at hw
    exact hs.base.held h l hw
  · unfold State.Runs
    rw [hrun]
    exact hs.runs_iff l
  · obtain ⟨hatt, hlim, hb⟩ := hs.execution he
    refine ⟨hatt, hlim, ?_⟩
    unfold Execution.brought at *
    cases hh : e.holder with
    | lane l =>
      simp only [hh] at hb ⊢
      rw [State.lane_tick]
      exact hb
    | direct k =>
      simp only [hh] at hb ⊢
      rwa [State.directQueue_tick, tickHead_any]
    | _ => simpa only [hh] using hb

/-- Settles O10: every act, accepted request, event and reset keeps lanes, executor and ports in agreement. -/
theorem everyStepKeepsTheLanes : Obligations.EveryStepKeepsTheLanes := by
  intro s t hs he
  exact keptByCommands_lanesOk.step (fun u hu => State.tick_lanesOk hu) (fun u q hu => Aside.lanesOk (s := u) (.of_eq rfl rfl rfl rfl) hu) hs he

/-! ### The power-on state and the step -/

theorem State.reset_banksOk : State.reset.BanksOk := by
  refine ⟨fun _ h => ?_, fun l b hw => ?_, fun h => ?_⟩
  · simp [State.port, State.reset, Port.fresh]
  · simp [State.lane, State.reset, Lane.fresh] at hw
  · simp [State.port, State.reset, Port.fresh, Port.drawsFrom]

theorem State.reset_resetPortsOk : State.reset.ResetPortsOk := by
  intro h _
  refine ⟨?_, ?_, by simp [State.reset], ?_, ?_, fun l => ⟨?_, ?_⟩⟩ <;>
    simp [State.mailbox, State.directQueue, State.port, State.lane, State.reset, Port.fresh, Lane.fresh, Lane.owner]

/-- Settles O4: the power-on state has nothing in any count, queue or lane. -/
theorem powerOnStateIsSound : Obligations.PowerOnStateIsSound :=
  ⟨State.reset_poolOk, State.reset_banksOk, State.reset_resetPortsOk, State.reset_countsOk, State.reset_linkOk,
    State.reset_lanesOk⟩

/-- Settles O1: it is how `step` reads its queue. -/
theorem stepRunsTheCommandInFront : Obligations.StepRunsTheCommandInFront := by
  intro s c rest hq
  unfold Machine.step
  rw [hq]

section
variable (s : State)

theorem mem_allTimers (i : Fin 4) : i ∈ ([0, 1, 2, 3] : List (Fin 4)) := by fin_cases i <;> simp

theorem falls_iff (n : Nat) : falls n = true ↔ n = 1 := by simp [falls]

/-- The events that fall due, by the counts that end (R158). -/
theorem State.mem_due (i : Instr) : i ∈ s.due ↔
    (s.phaseLeft = 1 ∧ i ∈ s.phaseEnd)
      ∨ ((s.link = .faulted ∧ s.watchLeft = 1) ∧ i = .recoveryWatchExpiry)
      ∨ (∃ t, ((s.timer t).running = true ∧ (s.timer t).left = 1) ∧ .timerExpiry t = i)
      ∨ (∃ l ∈ allLanes, ((s.lane l).run = .retryWait ∧ (s.lane l).retryLeft = 1) ∧ .retryExpiry (.lane l) = i)
      ∨ (∃ h ∈ allHosts, headFalls (s.directQueue h) = true ∧ .retryExpiry (.direct h) = i)
      ∨ (s.probe.left = some 1 ∧ i = .probeTimerExpiry)
      ∨ ((s.lease.isSome = true ∧ s.leaseLeft = 1) ∧ i = .leaseExpiry)
      ∨ ∃ h ∈ allHosts, ((s.port h).isReady && falls (s.port h).expiry && !(s.port h).clocksOut) = true
          ∧ .responseExpiry h = i := by
  have timers (P : Fin 4 → Prop) : (∃ t ∈ ([0, 1, 2, 3] : List (Fin 4)), P t) ↔ ∃ t, P t :=
    ⟨fun ⟨t, _, h⟩ => ⟨t, h⟩, fun ⟨t, h⟩ => ⟨t, mem_allTimers t, h⟩⟩
  simp only [State.due, List.mem_append, List.mem_filterMap, timers, falls_iff, Option.ite_none_right_eq_some,
    Option.some.injEq, List.mem_ite_nil_right, List.mem_singleton, or_assoc]

/-- The events that fall due and have no phase of the link to end. -/
theorem State.mem_due_of_count {i : Instr} (hi : ∀ u : State, i ∉ u.phaseEnd) : i ∈ s.due ↔
    ((s.link = .faulted ∧ s.watchLeft = 1) ∧ i = .recoveryWatchExpiry)
      ∨ (∃ t, ((s.timer t).running = true ∧ (s.timer t).left = 1) ∧ .timerExpiry t = i)
      ∨ (∃ l ∈ allLanes, ((s.lane l).run = .retryWait ∧ (s.lane l).retryLeft = 1) ∧ .retryExpiry (.lane l) = i)
      ∨ (∃ h ∈ allHosts, headFalls (s.directQueue h) = true ∧ .retryExpiry (.direct h) = i)
      ∨ (s.probe.left = some 1 ∧ i = .probeTimerExpiry)
      ∨ ((s.lease.isSome = true ∧ s.leaseLeft = 1) ∧ i = .leaseExpiry)
      ∨ ∃ h ∈ allHosts, ((s.port h).isReady && falls (s.port h).expiry && !(s.port h).clocksOut) = true
          ∧ .responseExpiry h = i := by
  rw [s.mem_due i]
  simp [hi]

theorem State.replyTimeout_mem_phaseEnd : .replyTimeout ∈ s.phaseEnd ↔ s.link = .awaitReply false := by
  unfold State.phaseEnd
  split <;> simp_all

theorem State.not_mem_phaseEnd {i : Instr}
    (hi : (∃ t, i = .timerExpiry t) ∨ i = .leaseExpiry ∨ i = .probeTimerExpiry ∨ i = .recoveryWatchExpiry) :
    i ∉ s.phaseEnd := by
  unfold State.phaseEnd
  obtain ⟨t, rfl⟩ | rfl | rfl | rfl := hi <;> split <;> simp

end

/-- Settles O2: it is what `step` reads on an empty queue, and the counts and events of one microsecond. -/
theorem stepWithNothingWaiting : Obligations.StepWithNothingWaiting := by
  intro s hq
  have hstep : Machine.step s = s.idleStep := by unfold Machine.step; rw [hq]
  refine ⟨fun hp => ?_, fun hp y rest hy => ?_, fun hp hy hg => ?_, fun hp hy hg => ⟨s.tick, ?_, ?_⟩⟩
  · simp [hstep, State.idleStep, hp]
  · simp [hstep, State.idleStep, hp, hy, exec]
  · simp [hstep, State.idleStep, hp, hy, hg, exec]
  · simp [hstep, State.idleStep, hp, hy, hg]
  · have hdue : s.tick.pending = s.due := by simp [State.tick, hq]
    have hqueue (h : HostId) := s.directQueue_tick h
    refine ⟨rfl, hdue, rfl, rfl, ?_, rfl, fun i => ?_, s.lane_tick, s.port_tick, fun h e => ?_, fun h r rest e => ?_,
      fun i => ?_, ?_, ?_, ?_, ?_, rfl, rfl, rfl, rfl, rfl, rfl, rfl, rfl, rfl⟩
    · show s.tickWatch = _
      unfold State.tickWatch
      split <;> simp_all [ticked]
    · simp [State.timer, State.tick, ticked]
    · rw [hqueue, e]; rfl
    · rw [hqueue, e]; rfl
    · rw [hdue, s.mem_due_of_count fun u => u.not_mem_phaseEnd (.inl ⟨i, rfl⟩)]
      simp
    · rw [hdue, s.mem_due_of_count fun u => u.not_mem_phaseEnd (by simp)]
      simp [Option.isSome_iff_ne_none]
    · rw [hdue, s.mem_due_of_count fun u => u.not_mem_phaseEnd (by simp)]
      simp
    · rw [hdue, s.mem_due_of_count fun u => u.not_mem_phaseEnd (by simp)]
      simp
    · rw [hdue, s.mem_due]
      simp [s.replyTimeout_mem_phaseEnd, and_comm]

end Sys2Proof.Machine
end


section
/-! SUPPORT. The encoder's parts read back by the decoder's, and the statements about request encodings and frames. -/

set_option Elab.async false

namespace Sys2Proof

/-! ### Bytes -/

theorem byteOf_toNat {n : Nat} (h : n ≤ 255) : (byteOf n).toNat = n := by
  simp [byteOf]
  omega

@[simp] theorem word16_extract (v : BitVec 16) : word16 (v.extractLsb' 8 8) (v.extractLsb' 0 8) = v := by
  unfold word16
  ext i hi
  simp only [BitVec.getElem_append, BitVec.getElem_extractLsb']
  split
  · simp [BitVec.getLsbD_eq_getElem hi]
  · rw [show 8 + (i - 8) = i by omega, BitVec.getLsbD_eq_getElem hi]

theorem takeData_encoded {data rest : List Byte} (h : data.length ≤ 255) :
    takeData (byteOf data.length :: (data ++ rest)) = some (data, rest) := by
  simp [takeData, byteOf_toNat h]

/-! ### Steps -/

/-- A step of a kind in the table is read back, whatever follows it (R173). -/
theorem decodeStep_encoded {st : RawStep} (hk : st.known = true) (hw : st.wf = true) (rest : List Byte) :
    decodeStep (encodeRawStep st ++ rest) = some (st, rest) := by
  cases st with
  | read => rfl
  | write seg n idx into data =>
    have hd : data.length ≤ 255 := by simpa [RawStep.wf] using hw
    simp [encodeRawStep, decodeStep, takeData_encoded hd]
  | broadcast seg idx into data =>
    have hd : data.length ≤ 255 := by simpa [RawStep.wf] using hw
    simp [encodeRawStep, decodeStep, takeData_encoded hd]
  | copy => rfl
  | brk => rfl
  | unknown => simp [RawStep.known] at hk

/-- A step of a kind outside the table takes all that is left (log 9). -/
theorem decodeStep_unknown {st : RawStep} (hk : st.known = false) (hw : st.wf = true) :
    decodeStep (encodeRawStep st) = some (st, []) := by
  cases st with
  | unknown kind rest =>
    have hkind : ¬ isStepKind kind = true := by simpa [RawStep.wf] using hw
    have hne (n : Nat) (hn : 1 ≤ n ∧ n ≤ 5) : kind ≠ BitVec.ofNat 8 n := by
      rintro rfl
      refine hkind ?_
      have : n % 256 = n := by omega
      simp [isStepKind, this, hn]
    simp [encodeRawStep, decodeStep, hne 1 (by omega), hne 2 (by omega), hne 3 (by omega), hne 4 (by omega),
      hne 5 (by omega)]
  | _ => simp [RawStep.known] at hk

theorem decodeStep_alone {st : RawStep} (hw : st.wf = true) : decodeStep (encodeRawStep st) = some (st, []) := by
  cases hk : st.known with
  | true => simpa using decodeStep_encoded hk hw []
  | false => exact decodeStep_unknown hk hw

theorem encodeRawStep_length (st : RawStep) : (encodeRawStep st).length = st.size := by
  cases st <;> simp [encodeRawStep, RawStep.size] <;> omega

theorem encodeRawStep_cons (st : RawStep) : ∃ b rest, encodeRawStep st = b :: rest := by
  cases st <;> simp [encodeRawStep]

/-- Steps within the count are read back, the last one also of a kind that has no layout (R173, log 9). -/
theorem decodeSteps_encoded : ∀ {n : Nat} {steps : List RawStep}, steps.length ≤ n → steps.all RawStep.wf = true →
    steps.dropLast.all RawStep.known = true → decodeSteps n (steps.flatMap encodeRawStep) = some steps := by
  intro n steps
  induction steps generalizing n with
  | nil => intros; cases n <;> simp [decodeSteps]
  | cons st rest ih =>
    intro hn hw hk
    obtain ⟨hst, hrest⟩ : st.wf = true ∧ rest.all RawStep.wf = true := by simpa using hw
    obtain ⟨m, rfl⟩ : ∃ m, n = m + 1 := ⟨n - 1, by simp at hn; omega⟩
    obtain ⟨b, more, hb⟩ := encodeRawStep_cons st
    have hstep : decodeStep (encodeRawStep st ++ rest.flatMap encodeRawStep) = some (st, rest.flatMap encodeRawStep) := by
      cases rest with
      | nil => simpa using decodeStep_alone hst
      | cons x more =>
        have hknown : st.known = true := by
          simp only [List.dropLast_cons_cons, List.all_cons, Bool.and_eq_true] at hk
          exact hk.1
        exact decodeStep_encoded hknown hst _
    have hkrest : rest.dropLast.all RawStep.known = true := by
      cases rest with
      | nil => rfl
      | cons x more =>
        simp only [List.dropLast_cons_cons, List.all_cons, Bool.and_eq_true] at hk
        exact hk.2
    have hloop := ih (n := m) (by simpa using hn) hrest hkrest
    rw [List.flatMap_cons]
    rw [hb] at hstep ⊢
    rw [List.cons_append] at hstep ⊢
    rw [decodeSteps, hstep]
    simp [hloop]

/-! ### Entries -/

theorem decodeConfig_entry (e : RawConfig) (rest : List Byte) :
    decodeConfig (encodeConfig e ++ rest) = (decodeConfig rest).map (e :: ·) := by
  cases e <;> (rw [decodeConfig.eq_def]; rfl)

theorem decodeConfig_encoded (entries : List RawConfig) : decodeConfig (entries.flatMap encodeConfig) = some entries := by
  induction entries with
  | nil => rfl
  | cons e rest ih => rw [List.flatMap_cons, decodeConfig_entry, ih]; rfl

theorem encodeConfig_length (e : RawConfig) : (encodeConfig e).length = e.size := by cases e <;> rfl

theorem quotaHost_byteOf (h : HostId) : quotaHost (byteOf (6 + h.val)) = some h := by
  fin_cases h <;> rfl

theorem byteOf_quota_ne (h : HostId) {n : Nat} (hn : n ≤ 5) : byteOf (6 + h.val) ≠ BitVec.ofNat 8 n := fun e => by
  have := congrArg BitVec.toNat e
  rw [byteOf_toNat (by omega), BitVec.toNat_ofNat] at this
  omega

theorem decodeSettings_entry (e : RawSetting) (rest : List Byte) :
    decodeSettings (encodeSetting e ++ rest) = (decodeSettings rest).map (e :: ·) := by
  cases e with
  | quota h v =>
    rw [decodeSettings.eq_def]
    have hne (n : Nat) (hn : n ≤ 5) := byteOf_quota_ne h hn
    simp [encodeSetting, bytes16, quotaHost_byteOf, hne 1, hne 2, hne 3, hne 4, hne 5]
  | _ => rw [decodeSettings.eq_def]; rfl

theorem decodeSettings_encoded (entries : List RawSetting) :
    decodeSettings (entries.flatMap encodeSetting) = some entries := by
  induction entries with
  | nil => rfl
  | cons e rest ih => rw [List.flatMap_cons, decodeSettings_entry, ih]; rfl

theorem encodeSetting_length (e : RawSetting) : (encodeSetting e).length = e.size := by cases e <;> rfl

theorem length_flatMap_eq {α : Type} {f : α → List Byte} {size : α → Nat} (h : ∀ a, (f a).length = size a) (as : List α) :
    (as.flatMap f).length = (as.map size).sum := by
  rw [List.length_flatMap]
  exact congrArg List.sum (List.map_congr_left fun a _ => h a)

/-! ### Requests -/

theorem decodePlace_encoded {a : PlaceArgs} (hw : a.step.wf = true) :
    decodePlace (a.lane :: a.position :: encodeRawStep a.step) = .fits a := by
  simp [decodePlace, decodeStep_alone hw]

theorem decodeAppend_encoded {a : AppendArgs} (hw : a.wf = true) :
    decodeAppend (a.lane :: a.steps.flatMap encodeRawStep) = .fits a := by
  obtain ⟨⟨⟨⟨hlow, hhigh⟩, hall⟩, hknown⟩, -⟩ :
      (((1 ≤ a.steps.length ∧ a.steps.length ≤ 4) ∧ a.steps.all RawStep.wf = true)
        ∧ a.steps.dropLast.all RawStep.known = true) ∧ 1 + (a.steps.map RawStep.size).sum ≤ maxPayload := by
    simpa only [AppendArgs.wf, Bool.and_eq_true, decide_eq_true_eq] using hw
  have hloop := decodeSteps_encoded hhigh hall hknown
  obtain ⟨st, rest, hsteps⟩ : ∃ st rest, a.steps = st :: rest := List.exists_cons_of_length_pos (by omega)
  obtain ⟨b, more, hb⟩ := encodeRawStep_cons st
  have hfront : a.steps.flatMap encodeRawStep = b :: (more ++ rest.flatMap encodeRawStep) := by
    rw [hsteps, List.flatMap_cons, hb, List.cons_append]
  rw [hfront] at hloop ⊢
  simp [decodeAppend, hloop, Payload.ofOption]

theorem decodePatch_encoded {a : PatchArgs} (hd : a.data.length ≤ 255) :
    decodePatch ([a.lane, a.position, byteOf a.data.length] ++ a.data) = .fits a := by
  simp [decodePatch, byteOf_toNat hd]

theorem decodeResult_encoded (a : ResultArgs) :
    decodeResult ([a.lane, a.first, a.count] ++ (a.newerThan.map bytes16).getD []) = .fits a := by
  obtain ⟨lane, first, count, newer⟩ := a
  cases newer <;> simp [decodeResult, bytes16]

theorem decodeTimer_encoded (a : TimerArgs) :
    decodeTimer ([a.timer, a.command] ++ (a.period.map bytes16).getD []) = .fits a := by
  obtain ⟨timer, command, period⟩ := a
  cases period <;> simp [decodeTimer, bytes16]

theorem decodeMask_encoded (a : MaskArgs) : decodeMask (bytes16 a.mask ++ [a.enable]) = .fits a := by
  simp [decodeMask, bytes16]

theorem decodeDirect_encoded {a : DirectArgs} (hw : a.step.wf = true) :
    decodeDirect ([a.limit, a.interval, a.hostTag] ++ encodeRawStep a.step) = .fits a := by
  simp [decodeDirect, decodeStep_alone hw]

end Sys2Proof

namespace Sys2Proof.Machine

/-- Settles O11: each request by its own layout. -/
theorem requestEncodingDecodesToItself : Obligations.RequestEncodingDecodesToItself := by
  intro i f fda hw hf hfda
  have hmax : maxPayload = 250 := rfl
  unfold encodeRequest at hf
  split at hf
  case h_36 => simp at hf
  all_goals
    obtain rfl := Option.some.inj hf
  -- a lane number to claim is not the code of "any"
  case h_1 h tag n =>
    have hn : n ≠ 0xFF#8 := by simpa [Instr.wf, Payload.all, LaneChoice.wf] using hw
    exact ⟨by simp [decodeRequest, decodeClaim, hn], by simp⟩
  case h_6 h tag a =>
    have hlen : 1 + (a.entries.map RawConfig.size).sum ≤ maxPayload := by simpa [Instr.wf, Payload.all] using hw
    refine ⟨by simp [decodeRequest, decodeConfigArgs, decodeConfig_encoded, Payload.ofOption], ?_⟩
    rw [List.length_cons, length_flatMap_eq encodeConfig_length]
    omega
  case h_13 h tag a =>
    have hwf : a.wf = true := hw
    have hlen : 1 + (a.steps.map RawStep.size).sum ≤ maxPayload := by
      simpa using (Bool.and_eq_true_iff.mp hwf).2
    refine ⟨by simp [decodeRequest, decodeAppend_encoded hwf], ?_⟩
    rw [List.length_cons, length_flatMap_eq encodeRawStep_length]
    omega
  case h_14 h tag a | h_15 h tag a =>
    obtain ⟨hstep, hlen⟩ : a.step.wf = true ∧ 2 + a.step.size ≤ maxPayload := by
      simpa [Instr.wf, Payload.all] using hw
    refine ⟨by simp [decodeRequest, decodePlace_encoded hstep], ?_⟩
    simp only [List.length_cons, encodeRawStep_length]
    omega
  case h_18 h tag a =>
    have hlen : 3 + a.data.length ≤ maxPayload := by simpa [Instr.wf, Payload.all] using hw
    refine ⟨?_, ?_⟩
    · have := decodePatch_encoded (a := a) (by omega)
      simpa [decodeRequest] using this
    · simp only [List.length_append, List.length_cons, List.length_nil]
      omega
  case h_20 h tag a =>
    refine ⟨congrArg (fun p => some (Instr.resultRead h tag p)) (decodeResult_encoded a), ?_⟩
    cases a.newerThan <;> simp [bytes16]
  case h_24 h tag a =>
    exact ⟨congrArg (fun p => some (Instr.eventMask h tag p)) (decodeMask_encoded a), by simp [bytes16]⟩
  case h_25 h tag a =>
    obtain ⟨hstep, hlen⟩ : a.step.wf = true ∧ 3 + a.step.size ≤ maxPayload := by
      simpa [Instr.wf, Payload.all] using hw
    refine ⟨congrArg (fun p => some (Instr.directSubmit h tag p)) (decodeDirect_encoded hstep), ?_⟩
    simp only [List.length_append, List.length_cons, List.length_nil, encodeRawStep_length]
    omega
  case h_26 h tag u v | h_28 h tag u v =>
    obtain rfl : v = fda := by simpa [readsFda] using hfda
    exact ⟨rfl, by simp⟩
  case h_32 h tag a =>
    refine ⟨congrArg (fun p => some (Instr.timerSet h tag p)) (decodeTimer_encoded a), ?_⟩
    cases a.period <;> simp [bytes16]
  case h_33 h tag entries =>
    have hlen : (entries.map RawSetting.size).sum ≤ maxPayload := by simpa [Instr.wf, Payload.all] using hw
    refine ⟨by simp [decodeRequest, decodeSettings_encoded, Payload.ofOption], ?_⟩
    rw [length_flatMap_eq encodeSetting_length]
    omega
  all_goals exact ⟨rfl, by simp⟩

/-! ### Frames -/

theorem parseFrame_eq (code tag len : Byte) (rest : List Byte) : parseFrame (code :: tag :: len :: rest)
    = if len.toNat ≤ 250 ∧ len.toNat < rest.length ∧ rest[len.toNat]? = some (crc (code :: tag :: len :: rest.take len.toNat))
      then some (code, tag, rest.take len.toNat) else none := rfl

theorem parseFrame_frameBytes (code tag : Byte) {payload : List Byte} (hp : payload.length ≤ 250) (rest : List Byte) :
    parseFrame (frameBytes code tag payload ++ rest) = some (code, tag, payload) := by
  have hlen : (byteOf payload.length).toNat = payload.length := byteOf_toNat (by omega)
  simp [frameBytes, parseFrame_eq, hlen, hp]

/-- Settles O12: the length byte says where the check byte stands, and nothing behind it is looked at. -/
theorem requestBytesAreReadBack : Obligations.RequestBytesAreReadBack := by
  intro code tag len payload rest
  refine ⟨fun hp => parseFrame_frameBytes code tag hp rest, fun h => ?_, rfl, rfl, rfl⟩
  rw [parseFrame_eq, if_neg]
  rintro ⟨hmax, hlen, hcrc⟩
  obtain h | h | h := h
  · omega
  · omega
  · exact h hcrc

end Sys2Proof.Machine
end


section
/-! SUPPORT. Frames and responses at one port: how a frame's end settles its response and judges its bytes, what a response
replaces, and what a released pin sets going; the statements about them. -/

set_option Elab.async false

namespace Sys2Proof.Machine

/-! ### The settling of a response -/

section
variable {s : State} {h : HostId} {f : Frame} {r : Response}

theorem State.settleResponse_of_not_carries (hc : f.carries = false) (n : Nat) : s.settleResponse h f n = s := by
  simp [State.settleResponse, hc]

theorem State.settleResponse_of_not_ready (hr : (s.port h).isReady = false) (n : Nat) : s.settleResponse h f n = s := by
  unfold State.settleResponse
  dsimp only
  split
  next e => simp [Port.isReady, e] at hr
  · rfl

/-- A response cut short leaves the port with TRUNCATED set, and its records stay (R144, R167). -/
theorem State.settleResponse_of_cut (hc : f.carries = true) (hr : (s.port h).state = .ready r) {n : Nat}
    (hn : n < f.out.length) : s.settleResponse h f n
      = (s.setPort h { s.port h with
          state := .idle
          sticky := { (s.port h).sticky with truncated := true } }).releasePin h := by
  have hcut : ¬ f.out.length ≤ n := by omega
  simp [State.settleResponse, hc, hr, hcut]

/-- A response clocked out whole leaves the port, and the records of a fetch the queue (R143, R163). -/
theorem State.settleResponse_of_whole (hc : f.carries = true) (hr : (s.port h).state = .ready r) {n : Nat}
    (hn : f.out.length ≤ n) : s.settleResponse h f n
      = ((s.setPort h { s.port h with state := .idle }).releasePin h).readOut h r.reply := by
  simp [State.settleResponse, hc, hr, hn]

theorem State.readOut_events {count lost left : Nat} (hr : r.reply = .events count lost left) :
    s.readOut h r.reply = s.setMailbox h { s.mailbox h with
      queue := (s.mailbox h).queue.drop count
      lost := (s.mailbox h).lost - lost } := by
  rw [hr]; rfl

theorem State.readOut_of_no_events (hr : ∀ a b c, r.reply ≠ .events a b c) : s.readOut h r.reply = s := by
  unfold State.readOut
  split
  next a b c e => exact absurd e (hr a b c)
  · rfl

end

/-- The frame of a port is over, with its status byte out. -/
def State.frameOver (s : State) (h : HostId) : State := s.setPort h { (s.port h).statusOut with frame := .none }

/-- What the end of a frame leaves of a response the frame clocked out, each case by its length. -/
inductive Settled (s : State) (h : HostId) (f : Frame) (r : Response) (n : Nat) : State → Prop where
  | cut (hn : n < f.out.length) : Settled s h f r n ((s.setPort h { (s.port h).statusOut with
      frame := .none
      state := .idle
      sticky := { (s.port h).statusOut.sticky with truncated := true } }).releasePin h)
  | fetched (hn : f.out.length ≤ n) (count lost left : Nat) (hr : r.reply = .events count lost left) :
      Settled s h f r n (((s.setPort h { (s.port h).statusOut with frame := .none, state := .idle }).releasePin
        h).setMailbox h { s.mailbox h with
          queue := (s.mailbox h).queue.drop count
          lost := (s.mailbox h).lost - lost })
  | read (hn : f.out.length ≤ n) (hr : ∀ a b c, r.reply ≠ .events a b c) :
      Settled s h f r n ((s.setPort h { (s.port h).statusOut with frame := .none, state := .idle }).releasePin h)

theorem State.settleResponse_frameOver {s u : State} {h : HostId} {f : Frame} {r : Response} {n : Nat}
    (hc : f.carries = true) (hr : (s.port h).state = .ready r) (hu : Settled s h f r n u) :
    (s.frameOver h).settleResponse h f n = u := by
  have hport : (s.frameOver h).port h = { (s.port h).statusOut with frame := .none } := State.port_setPort_self ..
  have hready : ((s.frameOver h).port h).state = .ready r := by
    rw [hport, ← hr]
    exact (s.port h).statusOut_state
  cases hu with
  | cut hn =>
    rw [State.settleResponse_of_cut hc hready hn, hport]
    simp [State.frameOver]
  | fetched hn count lost left he =>
    rw [State.settleResponse_of_whole hc hready hn, State.readOut_events he, State.releasePin_mailbox, hport]
    simp [State.frameOver, State.mailbox]
  | read hn he =>
    rw [State.settleResponse_of_whole hc hready hn, State.readOut_of_no_events he, hport]
    simp [State.frameOver]

theorem State.accepts_of_idle {s : State} {h : HostId} (hi : (s.port h).state = .idle) : s.accepts h = true := by
  simp [State.accepts, hi]

theorem Settled.accepts {s u : State} {h : HostId} {f : Frame} {r : Response} {n : Nat} (hu : Settled s h f r n u) :
    u.accepts h = true := by
  refine State.accepts_of_idle ?_
  cases hu with
  | fetched => simp [State.releasePin_port]
  | _ => simp [State.releasePin_port]

/-! ### Request bytes -/

section
variable {u : State} {h : HostId} {bytes : List Byte} {code tag : Byte} {payload : List Byte} {fda : Level}

theorem State.judgeFrame_of_poll (hp : parseFrame bytes = some (0x00#8, tag, [])) : u.judgeFrame h bytes fda = u := by
  unfold State.judgeFrame
  simp only [hp]
  split <;> rfl

/-- The bytes of a request are the request, at every port (R164, R171). -/
theorem State.judgeFrame_of_request {i : Instr} (hp : parseFrame bytes = some (code, tag, payload))
    (hd : decodeRequest h tag code payload fda = some i) : Machine.exec i u = .next (u.judgeFrame h bytes fda) := by
  obtain ⟨act, -, hroute, hexec⟩ := exec_of_asked (asked_of_decodeRequest hd)
  have hcode : code ≠ 0x00#8 := by
    rintro rfl
    simp [decodeRequest] at hd
  rw [hexec]
  refine congrArg Host.Outcome.next ?_
  unfold State.judgeFrame
  simp only [hp]
  split
  next hs => simp [State.request, hs]
  next hs =>
    split
    next e => simp [hcode] at e
    · simp [State.request, hs]
  next hi hb =>
    split
    next e => simp [hcode] at e
    next c t p _ e =>
      obtain ⟨rfl, rfl, rfl⟩ : code = c ∧ tag = t ∧ payload = p := by simpa using e
      simp only [State.takeRequest, hcode, if_false, hd, hroute]
    next e => simp at e

/-- At a BUSY port all but a POLL is dropped (R164). -/
theorem State.judgeFrame_of_busy (hb : (u.port h).isBusy = true) (hp : ∀ n, parseFrame bytes ≠ some (0x00#8, n, [])) :
    u.judgeFrame h bytes fda
      = u.setPort h { u.port h with sticky := { (u.port h).sticky with dropped := true } } := by
  unfold State.judgeFrame
  dsimp only
  split
  next e => simp [Port.isBusy, e] at hb
  · split
    next t e => exact absurd e (hp t)
    · rfl
  next hn => unfold Port.isBusy at hb; split at hb <;> simp_all

theorem State.judgeFrame_of_malformed (ha : u.accepts h = true) (hp : parseFrame bytes = none) :
    u.judgeFrame h bytes fda = u.respond h (bytes.getD 1 0x00#8) .badFrame .nothing := by
  obtain ⟨hi, hb⟩ := State.state_of_accepts ha
  unfold State.judgeFrame
  simp only [hp]

theorem State.judgeFrame_of_unknown (ha : u.accepts h = true) (hp : parseFrame bytes = some (code, tag, payload))
    (hc : code ≠ 0x00#8) (hd : decodeRequest h tag code payload fda = none) :
    u.judgeFrame h bytes fda = u.respond h tag .unknownRequest .nothing := by
  obtain ⟨hi, hb⟩ := State.state_of_accepts ha
  unfold State.judgeFrame
  simp [hp, hc, hd, State.takeRequest]

theorem State.judgeFrame_of_payload (ha : u.accepts h = true) (hp : parseFrame bytes = some (0x00#8, tag, payload))
    (hl : payload ≠ []) : u.judgeFrame h bytes fda = u.respond h tag .badArgument .nothing := by
  obtain ⟨hi, hb⟩ := State.state_of_accepts ha
  unfold State.judgeFrame
  simp [hp, hl, State.takeRequest]

end

/-! ### Frame ends -/

section
variable {s : State} {h : HostId} {f : Frame} {bytes : List Byte} {fda : Level}

theorem exec_frameEnd (hf : (s.port h).frame = .inFrame f) (hb : bytes ≠ []) :
    exec (.frameEnd h bytes fda) s
      = .next (((s.frameOver h).settleResponse h f bytes.length).judgeFrame h bytes fda) := by
  simp only [exec, execFrameEnd, hf, if_neg hb]
  rfl

theorem exec_frameEnd_of_not_carries (hf : (s.port h).frame = .inFrame f) (hb : bytes ≠ []) (hc : f.carries = false) :
    exec (.frameEnd h bytes fda) s = .next ((s.frameOver h).judgeFrame h bytes fda) := by
  rw [exec_frameEnd hf hb, State.settleResponse_of_not_carries hc]

theorem exec_frameEnd_of_settled {r : Response} {u : State} (hf : (s.port h).frame = .inFrame f) (hb : bytes ≠ [])
    (hc : f.carries = true) (hr : (s.port h).state = .ready r) (hu : Settled s h f r bytes.length u) :
    exec (.frameEnd h bytes fda) s = .next (u.judgeFrame h bytes fda) := by
  rw [exec_frameEnd hf hb, State.settleResponse_frameOver hc hr hu]

end

theorem frameBytes_ne_nil (code tag : Byte) (payload rest : List Byte) : frameBytes code tag payload ++ rest ≠ [] := by
  simp [frameBytes]

/-- Settles O13: the bytes of a request read back are the request, on what its frame's end left of the response. -/
theorem frameEndTakesItsRequest : Obligations.FrameEndTakesItsRequest := by
  intro s f i r rest fda old count lost left hf hw he hfda bytes
  obtain ⟨hd, hlen⟩ := requestEncodingDecodesToItself i r fda hw he hfda
  have hparse : parseFrame bytes = some (r.code, r.tag, r.payload) := parseFrame_frameBytes r.code r.tag hlen rest
  have hbytes : bytes ≠ [] := frameBytes_ne_nil r.code r.tag r.payload rest
  have taken (u : State) : .next (u.judgeFrame r.host bytes fda) = exec i u :=
    (State.judgeFrame_of_request hparse hd).symm
  refine ⟨fun hc => ?_, fun hc hr => ⟨fun hn => ?_, fun hn hold => ?_, fun hn hold => ?_⟩⟩
  · exact (exec_frameEnd_of_not_carries hf hbytes hc).trans (taken _)
  · exact (exec_frameEnd_of_settled hf hbytes hc hr (.cut hn)).trans (taken _)
  · exact (exec_frameEnd_of_settled hf hbytes hc hr (.fetched hn _ _ _ hold)).trans (taken _)
  · exact (exec_frameEnd_of_settled hf hbytes hc hr (.read hn hold)).trans (taken _)

/-- Settles O16: a POLL leaves what the frame's end left. -/
theorem frameEndSettlesTheResponse : Obligations.FrameEndSettlesTheResponse := by
  intro s h f r bytes tag fda count lost left hf hc hr hb hp
  have settled {u : State} (hu : Settled s h f r bytes.length u) : exec (.frameEnd h bytes fda) s = .next u := by
    rw [exec_frameEnd_of_settled hf hb hc hr hu, State.judgeFrame_of_poll hp]
  exact ⟨fun hn => settled (.cut hn), fun hn he => settled (.fetched hn _ _ _ he), fun hn he => settled (.read hn he)⟩

/-- Settles O14: the frames with no byte, and the three malformed ones on what the frame's end left. -/
theorem frameEndWithoutARequest : Obligations.FrameEndWithoutARequest := by
  intro s h f bytes code tag payload fda r count lost left got p q refused
  have hover : s.frameOver h = s.setPort h p := rfl
  have hpstate : p.state = (s.port h).state := (s.port h).statusOut_state
  have judged {u : State} (ha : u.accepts h = true) (hu : got = .next (u.judgeFrame h bytes fda)) : refused u :=
    ⟨fun hp => hu.trans (congrArg _ (State.judgeFrame_of_malformed ha hp)),
      fun hp hcode hd => hu.trans (congrArg _ (State.judgeFrame_of_unknown ha hp hcode hd)),
      fun hp hl => hu.trans (congrArg _ (State.judgeFrame_of_payload ha hp hl))⟩
  refine ⟨fun hf => ?ignored, fun hf hno => ?empty, fun hf hc he hr => ?expired, fun hf hb => ⟨fun hc hp => ?poll,
    fun hc ha => ?plain, fun hc hr => ?carried, fun hbusy hp => ?busy⟩⟩
  case ignored => simp only [got, exec, execFrameEnd, hf]
  case empty =>
    have hnot : ¬ (f.carries = true ∧ (s.port h).expiry = 0) := by
      rintro ⟨hc, he⟩
      obtain hn | hn := hno
      · simp [hn] at hc
      · exact hn he
    simp only [exec, execFrameEnd, hf, if_true, State.endEmptyFrame, State.port_setPort_self, if_neg hnot]
  case expired =>
    simp [exec, execFrameEnd, hf, State.endEmptyFrame, hc, he, State.expire, hr]
  case poll => exact (exec_frameEnd_of_not_carries hf hb hc).trans (congrArg _ (State.judgeFrame_of_poll hp))
  case plain =>
    refine judged ?_ (exec_frameEnd_of_not_carries hf hb hc)
    simpa [State.accepts, hover, hpstate] using ha
  case carried =>
    have settled {u : State} (hu : Settled s h f r bytes.length u) : refused u :=
      judged hu.accepts (exec_frameEnd_of_settled hf hb hc hr hu)
    exact ⟨fun hn => settled (.cut hn), fun hn he => settled (.fetched hn _ _ _ he), fun hn he => settled (.read hn he)⟩
  case busy =>
    have hport : (s.frameOver h).port h = p := State.port_setPort_self ..
    have hbusy' : ((s.frameOver h).port h).isBusy = true := by rwa [hport, Port.isBusy, hpstate]
    have hready : ((s.frameOver h).port h).isReady = false := by
      unfold Port.isBusy at hbusy'
      unfold Port.isReady
      split at hbusy' <;> simp_all
    refine (exec_frameEnd hf hb).trans (congrArg _ ?_)
    rw [State.settleResponse_of_not_ready hready, State.judgeFrame_of_busy hbusy' hp, hport, hover]
    simp

/-! ### Responses and pins -/

theorem State.expire_of_ready {s : State} {h : HostId} {r : Response} (hr : (s.port h).state = .ready r) :
    s.expire h = (s.setPort h { s.port h with
      state := .idle
      sticky := { (s.port h).sticky with expired := true } }).releasePin h := by
  simp [State.expire, hr]

theorem State.expire_of_not_ready {s : State} {h : HostId} (hr : (s.port h).isReady = false) : s.expire h = s := by
  unfold State.expire
  dsimp only
  split
  next e => simp [Port.isReady, e] at hr
  · rfl

/-- Settles O17: POLL by its bytes, an expiry by its count, its frame and its response. -/
theorem pollAndExpiry : Obligations.PollAndExpiry := by
  intro s h r f tag
  refine ⟨?_, fun hr hf he => ?_, fun hr hf hc he => ?_, fun hf hc => ?_, fun hr => ?_, fun he => ?_⟩
  · refine congrArg Host.Outcome.next (State.judgeFrame_of_poll (tag := tag) ?_)
    exact parseFrame_frameBytes 0x00#8 tag (payload := []) (by simp) []
  · simp [exec, execResponseExpiry, he, Port.clocksOut, hf, State.expire_of_ready hr]
  · simp [exec, execResponseExpiry, he, Port.clocksOut, hf, hc, State.expire_of_ready hr]
  · simp [exec, execResponseExpiry, Port.clocksOut, hf, hc]
  · simp [exec, execResponseExpiry, State.expire_of_not_ready hr]
  · simp [exec, execResponseExpiry, he]

theorem Port.answered_eq (p : Port) (st : Status) (tag : Byte) (r : Reply) :
    p.answered st tag r = { p with state := .ready ⟨st, tag, r⟩, expiry := 20000, pin := r.pins.or p.pin } := by
  unfold Port.answered
  cases r.pins <;> rfl

theorem State.hold_of_not_ready (s : State) (h : HostId) (tag : Byte) (k : HeldKind) (hn : (s.port h).isReady = false) :
    s.hold h tag k = s.setPort h { s.port h with state := .busy ⟨tag, k⟩ } := by
  have hd : s.discardUnread h = s := by
    unfold Port.isReady at hn
    unfold State.discardUnread
    dsimp only
    split <;> simp_all
  unfold State.hold
  rw [hd]

theorem State.discardUnread_of_ready {s : State} {h : HostId} {r : Response} (hr : (s.port h).state = .ready r) :
    s.discardUnread h = (s.setPort h { s.port h with
      state := .idle
      frame := (s.port h).frame.uncarry
      sticky := { (s.port h).sticky with lostResponse := true } }).releasePin h := by
  simp [State.discardUnread, hr]

/-- Settles O18: a response or a request in progress takes the place of the unread response, whose pin is gone by then. -/
theorem responseReplacesTheUnreadOne : Obligations.ResponseReplacesTheUnreadOne := by
  intro s h tag st r k old p u
  refine ⟨fun hn => ⟨?_, State.hold_of_not_ready s h tag k hn⟩, fun hr => ⟨?_, ?_⟩⟩
  · rw [State.respond_of_not_ready s h tag st r hn, Port.answered_eq]
  · have hu : s.discardUnread h = u := State.discardUnread_of_ready hr
    have hpin : (u.port h).pin = none := by simp [u, State.releasePin_port]
    show (s.discardUnread h).setPort h (((s.discardUnread h).port h).answered st tag r) = _
    rw [hu, Port.answered_eq, hpin, Option.or_none]
  · unfold State.hold
    rw [State.discardUnread_of_ready hr]

/-- The bank a lane takes is the lowest that is neither front nor pinned (R121). -/
theorem State.chooseBank_eq_some {s : State} {l : LaneId} {c : BankId} (hf : (s.lane l).front ≠ some c)
    (hp : s.pinned l c = false) (hlow : ∀ d : BankId, d < c → (s.lane l).front = some d ∨ s.pinned l d = true) :
    s.chooseBank l = some c := by
  have taken (d : BankId) (hd : d < c) : ((s.lane l).front != some d && !s.pinned l d) = false := by
    obtain h | h := hlow d hd <;> simp [h]
  have free : ((s.lane l).front != some c && !s.pinned l c) = true := by simp [hf, hp]
  unfold State.chooseBank allBanks
  fin_cases c
  · simp_all
  · have := taken 0 (by decide)
    simp_all
  · have h0 := taken 0 (by decide)
    have h1 := taken 1 (by decide)
    simp_all

theorem State.chooseBank_eq_none {s : State} {l : LaneId}
    (hall : ∀ d : BankId, (s.lane l).front = some d ∨ s.pinned l d = true) : s.chooseBank l = none := by
  unfold State.chooseBank
  rw [List.find?_eq_none]
  intro d _
  obtain h | h := hall d <;> simp [h]

/-- Settles O19: the pin goes, and a lane that waits chooses again. -/
theorem releasedPinEndsAWait : Obligations.ReleasedPinEndsAWait := by
  intro s h l b c u
  have released (hp : (s.port h).pin = some (l, b)) :
      s.releasePin h = if (s.lane l).waiting = true then u.takeBank l else u := by
    obtain ⟨hn, -⟩ | ⟨l', b', hp', e⟩ := s.releasePin_cases h
    · simp [hp] at hn
    · obtain ⟨rfl, rfl⟩ : l = l' ∧ b = b' := by simpa [hp] using hp'
      exact e
  refine ⟨fun hp => ?_, fun hp hw => ?_, fun hp hw hall => ?_, fun hp hw hf hpin hlow => ?_⟩
  · simp [State.releasePin, hp]
  · rw [released hp, if_neg (by simp [hw])]
  · rw [released hp, if_pos hw, State.takeBank, State.chooseBank_eq_none (s := u) hall]
    rfl
  · rw [released hp, if_pos hw, State.takeBank, State.chooseBank_eq_some (s := u) hf hpin hlow]
    rfl

/-! ### The bytes of a frame -/

theorem getLsbD_of_flags : ∀ a b c d e f g i : Bool,
    let v : Byte := BitVec.ofBoolListBE [a, b, c, d, e, f, g, i]
    v.getLsbD 7 = a ∧ v.getLsbD 6 = b ∧ v.getLsbD 5 = c ∧ v.getLsbD 4 = d ∧ v.getLsbD 3 = e ∧ v.getLsbD 2 = f
      ∧ v.getLsbD 1 = g ∧ v.getLsbD 0 = i := by decide

theorem Response.bytes_eq (s : State) (h : HostId) (r : Response) : r.bytes s h
    = (let payload := Reply.bytes s h r.reply
       let body := [r.status.code, r.tag, BitVec.ofNat 8 (payload.length / 256), BitVec.ofNat 8 payload.length] ++ payload
       body ++ [crc body]) := by
  unfold Response.bytes
  dsimp only
  rw [twoBytes_eq]
  rfl

/-- Settles O15: FRAME_START by the port's state, and the status byte bit by bit. -/
theorem frameBeginsWithTheStatusByte : Obligations.FrameBeginsWithTheStatusByte := by
  intro s h r f payload body begins
  have bytes : r.bytes s h = body ++ [crc body] := r.bytes_eq s h
  have inReset (hf : (s.port h).frame = .none) (hr : (s.port h).state = .inReset) :
      begins = .next (s.setPort h { s.port h with frame := .ignored }) := by
    simp only [begins, exec, execFrameStart, hf, hr]
  have ready (hf : (s.port h).frame = .none) (hr : (s.port h).state = .ready r) :
      begins = .next (s.setPort h { s.port h with
        frame := .inFrame ⟨(s.port h).sticky, false, true, s.statusByte h :: r.bytes s h⟩ }) := by
    simp only [begins, exec, execFrameStart, hf, hr]
  have plain (hf : (s.port h).frame = .none) (hi : (s.port h).state ≠ .inReset) (hr : (s.port h).isReady = false) :
      begins = .next (s.setPort h { s.port h with
        frame := .inFrame ⟨(s.port h).sticky, false, false, [s.statusByte h]⟩ }) := by
    simp only [begins, exec, execFrameStart, hf]
    cases hs : (s.port h).state with
    | idle => rfl
    | busy q => rfl
    | ready q => simp [Port.isReady, hs] at hr
    | inReset => exact absurd hs hi
  refine ⟨inReset, ready, plain, bytes, fun hf hr => ⟨_, inReset hf hr, ?_⟩, fun hf hr => ⟨_, ready hf hr, ?_, ?_⟩,
    fun hf hi hr => ⟨_, plain hf hi hr, ?_, ?_⟩, fun hf hd => ?_, ?_⟩
  · simp [Port.sends, Config.filler]
  · simp [Port.sends]
  · intro i
    simp [Port.sends, Config.filler, bytes]
  · simp [Port.sends]
  · intro i
    simp [Port.sends, Config.filler]
  · simp [exec, execStatusByteClockedOut, Port.statusOut, hf, hd, Sticky.without]
  · exact getLsbD_of_flags ..

end Sys2Proof.Machine
end


section
/-! SUPPORT. The verdict of a request as a function of its command, what a port that takes it answers, and the checks that many
requests share; the statements about requests at large. -/

set_option Elab.async false

namespace Sys2Proof.Machine

/-- What the owning block of a request makes of it. -/
def verdictOf : Instr → State → Verdict
  | .laneClaim h _ p => withArgs p (judgeLaneClaim h)
  | .laneRelease h _ p => withArgs p (judgeLaneRelease h)
  | .laneHandover h _ p => withArgs p (judgeLaneHandover h)
  | .laneAdopt h _ p => withArgs p (judgeLaneAdopt h)
  | .laneConfig h _ p => withArgs p (judgeLaneConfig h)
  | .laneArm h _ p => withArgs p (judgeLaneArm h)
  | .laneDisarm h _ p => withArgs p (judgeLaneDisarm h)
  | .laneRun h _ p => withArgs p (judgeLaneRun h)
  | .laneStop h _ p => withArgs p (judgeLaneStop h)
  | .laneQuery _ _ p => withArgs p judgeLaneQuery
  | .laneQueryClear h _ p => withArgs p (judgeLaneQueryClear h)
  | .progAppend h _ p => withArgs p (judgeProgAppend h)
  | .progInsert h _ p => withArgs p (judgeProgInsert h)
  | .progReplace h _ p => withArgs p (judgeProgReplace h)
  | .progRemove h _ p => withArgs p (judgeProgRemove h)
  | .progClear h _ p => withArgs p (judgeProgClear h)
  | .progPatch h _ p => withArgs p (judgeProgPatch h)
  | .progRead _ _ p => withArgs p judgeProgRead
  | .resultRead _ _ p => withArgs p judgeResultRead
  | .resultWatch h _ p => withArgs p (judgeResultWatch h)
  | .resultUnwatch h _ p => withArgs p (judgeResultUnwatch h)
  | .eventFetch h _ p => withArgs p (judgeEventFetch h)
  | .eventMask h _ p => withArgs p (judgeEventMask h)
  | .directSubmit h _ p => withArgs p (judgeDirectSubmit h)
  | .linkEnable h _ p fda => withArgs p (judgeLinkEnable h fda)
  | .linkDisable h _ p => withArgs p (judgeLinkDisable h)
  | .linkReset h _ p fda => withArgs p (judgeLinkReset h fda)
  | .leaseTake h _ p => withArgs p (judgeLeaseTake h)
  | .leaseRenew h _ p => withArgs p (judgeLeaseRenew h)
  | .leaseDrop h _ p => withArgs p (judgeLeaseDrop h)
  | .timerSet h _ p => withArgs p (judgeTimerSet h)
  | .settingsWrite h _ p => withArgs p (judgeSettingsWrite h)
  | .settingsRead _ _ p => withArgs p judgeSettingsRead
  | .deviceQuery _ _ p => withArgs p judgeDeviceQuery
  | _ => fun _ => refuse .badArgument

/-- A request of the catalogue is the taking of its verdict (R165). -/
theorem exec_eq_request {i : Instr} {h : HostId} {tag : Byte} (hi : i.asked = some (h, tag)) (s : State) :
    exec i s = .next (s.request h tag (verdictOf i)) := by
  cases i <;> simp only [Instr.asked, reduceCtorEq, Option.some.injEq, Prod.mk.injEq] at hi <;>
    (obtain ⟨rfl, rfl⟩ := hi; rfl)

section
variable {i : Instr} {h : HostId} {tag : Byte} (hi : i.asked = some (h, tag)) {s : State} (ha : s.accepts h = true)
include hi ha

theorem exec_of_refusal {st : Status} (hv : verdictOf i s = refuse st) :
    exec i s = .next (s.respond h tag st .nothing) := by
  rw [exec_eq_request hi, State.request_of_refusal tag ha hv]

theorem exec_of_error {st : Status} {r : Reply} (hv : verdictOf i s = .error (st, r)) :
    exec i s = .next (s.respond h tag st r) := by
  rw [exec_eq_request hi, State.request_of_error tag ha hv]

theorem exec_of_accept {t : State} {r : Reply} (hv : verdictOf i s = accept t r) :
    exec i s = .next (t.respond h tag .ok r) := by
  rw [exec_eq_request hi, State.request_of_accept tag ha hv]

theorem exec_of_held {t : State} {k : HeldKind} (hv : verdictOf i s = .ok (t, .held k)) :
    exec i s = .next (t.hold h tag k) := by
  obtain ⟨hReset, hBusy⟩ := State.state_of_accepts ha
  rw [exec_eq_request hi]
  refine congrArg Host.Outcome.next ?_
  obtain ⟨e, -⟩ | ⟨⟨q, e⟩, -⟩ | ⟨st, r, e, -⟩ | ⟨t', r, e, -⟩ | ⟨t', k', e, hreq⟩ := s.request_cases h tag (verdictOf i)
  · exact absurd e hReset
  · exact absurd e (hBusy q)
  · simp [hv] at e
  · simp [hv] at e
  · obtain ⟨rfl, rfl⟩ : t = t' ∧ k = k' := by simpa [hv] using e
    exact hreq

end

/-! ### Checks that requests share -/

theorem laneNo_eq_some {n : Byte} {l : LaneId} (h : n.toNat = l.val) : laneNo n = some l := small_eq_some h

theorem onLane_of_lane {n : Byte} {l : LaneId} (h : n.toNat = l.val) (act : LaneId → Verdict) : onLane n act = act l := by
  rw [onLane, laneNo_eq_some h]

theorem onLane_of_high {n : Byte} (h : 8 ≤ n.toNat) (act : LaneId → Verdict) : onLane n act = refuse .badArgument := by
  rw [onLane, laneNo, small_eq_none h]

theorem asOwner_of_owner {s : State} {h : HostId} {l : LaneId} (v : Verdict) (ho : (s.lane l).owner = some h) :
    asOwner s h l v = v := if_pos ho

theorem asOwner_of_stranger {s : State} {h : HostId} {l : LaneId} (v : Verdict) (ho : (s.lane l).owner ≠ some h) :
    asOwner s h l v = refuse .notOwner := if_neg ho

theorem Payload.eq_misfit {α : Type} {p : Payload α} (h : p.isMisfit = true) : p = .misfit := by
  cases p with
  | fits a => simp [Payload.isMisfit] at h
  | misfit => rfl

/-- A payload that does not fit its layout is refused before any other check (R24, R174). -/
theorem verdictOf_of_misfits {i : Instr} (hi : i.misfits = true) (s : State) : verdictOf i s = refuse .badArgument := by
  unfold Instr.misfits at hi
  split at hi
  case h_35 => simp at hi
  all_goals
    obtain rfl := Payload.eq_misfit hi
    rfl

/-- A lane number above 7 is refused before any other check (R24). -/
theorem verdictOf_of_high_lane {i : Instr} {n : Byte} (hi : i.laneByte = some n) (hn : 8 ≤ n.toNat) (s : State) :
    verdictOf i s = refuse .badArgument := by
  unfold Instr.laneByte at hi
  split at hi
  case h_22 => simp at hi
  all_goals obtain rfl := Option.some.inj hi
  case h_15 h tag a =>
    -- PROG_APPEND counts its steps first, with the same answer
    show judgeProgAppend h a s = _
    unfold judgeProgAppend
    split
    · rfl
    · exact onLane_of_high hn _
  all_goals exact onLane_of_high hn _

/-- Settles O20: at a port in reset, at a BUSY one, and the two checks before any other. -/
theorem requestsThatAreNotTaken : Obligations.RequestsThatAreNotTaken := by
  intro s i h tag n hi
  refine ⟨fun hr => ?_, fun hb => ?_, fun ha hbad => exec_of_refusal hi ha ?_⟩
  · rw [exec_eq_request hi]
    simp [State.request, hr]
  · rw [exec_eq_request hi]
    cases hs : (s.port h).state with
    | busy q => simp [State.request, hs]
    | _ => simp [Port.isBusy, hs] at hb
  · obtain hm | ⟨hl, hn⟩ := hbad
    · exact verdictOf_of_misfits hm s
    · exact verdictOf_of_high_lane hl hn s

/-! ### Requests of the owner alone -/

/-- A verdict that checks the owner, then STOPPING (R24). -/
def OwnerFirst (s : State) (h : HostId) (l : LaneId) (inStopping : Bool) (v : Verdict) : Prop :=
  ((s.lane l).owner ≠ some h → v = refuse .notOwner)
    ∧ ((s.lane l).owner = some h → (s.lane l).run = .stopping → inStopping = false → v = refuse .laneState)

theorem asOwner_ownerFirst {s : State} {h : HostId} {l : LaneId} {inStopping : Bool} {v : Verdict}
    (hs : (s.lane l).run = .stopping → inStopping = false → v = refuse .laneState) :
    OwnerFirst s h l inStopping (asOwner s h l v) :=
  ⟨asOwner_of_stranger v, fun ho hr ha => (asOwner_of_owner v ho).trans (hs hr ha)⟩

theorem onLane_ownerFirst {s : State} {h : HostId} {l : LaneId} {inStopping : Bool} {n : Byte} {act : LaneId → Verdict}
    (hl : n.toNat = l.val) (hv : OwnerFirst s h l inStopping (act l)) : OwnerFirst s h l inStopping (onLane n act) := by
  rwa [onLane_of_lane hl]

/-- An edit of a program is refused while a pass is in progress (R8). -/
theorem asEditor_ownerFirst {s : State} {h : HostId} {l : LaneId} {inStopping : Bool} {v : Verdict} :
    OwnerFirst s h l inStopping (asEditor s h l v) :=
  asOwner_ownerFirst fun hr _ => if_neg (by simp [hr, RunState.editable])

/-- Which entries are in range does not depend on the configuration they are applied to (R31). -/
theorem RawConfig.apply_isSome (c d : LaneConfig) (e : RawConfig) :
    (RawConfig.apply c e).isSome = (RawConfig.apply d e).isSome := by
  cases e with
  | priority v => simp [RawConfig.apply]
  | source kind detail => simp [RawConfig.apply]
  | limit v | interval v => simp only [RawConfig.apply]; split <;> rfl
  | mode v | resume v | onError v => simp only [RawConfig.apply]; split <;> rfl

theorem applyConfig_isSome (entries : List RawConfig) : ∀ c d : LaneConfig,
    (applyConfig c entries).isSome = (applyConfig d entries).isSome := by
  induction entries with
  | nil => exact fun _ _ => rfl
  | cons e rest ih =>
    intro c d
    have h := RawConfig.apply_isSome c d e
    rw [applyConfig, applyConfig]
    cases hc : RawConfig.apply c e <;> cases hd : RawConfig.apply d e <;> simp only [hc, hd] at h ⊢
    · simp at h
    · simp at h
    · exact ih _ _

theorem newConfig_isSome (c d : LaneConfig) (entries : List RawConfig) :
    (newConfig c entries).isSome = (newConfig d entries).isSome := by
  unfold newConfig
  split
  · exact applyConfig_isSome entries c d
  · rfl

theorem ownerFirst_of_ownerOnly {s : State} {i : Instr} {h : HostId} {tag n : Byte} {l : LaneId}
    (hi : i.asked = some (h, tag)) (ho : i.ownerOnly = true) (hn : i.laneByte = some n) (hl : n.toNat = l.val)
    (hr : i.ranged = true) : OwnerFirst s h l i.actsInStopping (verdictOf i s) := by
  unfold Instr.laneByte at hn
  split at hn
  case h_22 => simp at hn
  all_goals
    obtain rfl := Option.some.inj hn
    obtain ⟨rfl, rfl⟩ := Prod.mk.inj (Option.some.inj hi)
  case h_1 | h_5 | h_10 | h_13 | h_14 | h_20 | h_21 => simp [Instr.ownerOnly] at ho
  -- LANE_HANDOVER and LANE_CONFIG, their own arguments in range
  case h_2 h tag a =>
    obtain ⟨k, hk⟩ : ∃ k, hostNo a.target = some k := by
      have ht : a.target.toNat < 4 := by simpa [Instr.ranged] using hr
      exact ⟨⟨a.target.toNat, ht⟩, small_eq_some rfl⟩
    refine onLane_ownerFirst hl ?_
    rw [hk]
    exact asOwner_ownerFirst fun hrun _ => if_pos hrun
  case h_3 h tag a =>
    obtain ⟨c, hc⟩ : ∃ c, newConfig (s.lane l).config a.entries = some c :=
      Option.isSome_iff_exists.mp ((newConfig_isSome _ LaneConfig.default _).trans hr)
    refine onLane_ownerFirst hl ?_
    dsimp only
    rw [hc]
    exact asOwner_ownerFirst fun hrun _ => by rw [hrun]
  -- requests by run state
  case h_4 | h_6 | h_7 =>
    refine onLane_ownerFirst hl ?_
    exact asOwner_ownerFirst fun hrun _ => by dsimp only; rw [hrun]
  case h_8 | h_9 =>
    refine onLane_ownerFirst hl ?_
    exact asOwner_ownerFirst fun hrun _ => if_pos hrun
  -- the two that act in STOPPING too
  case h_11 | h_19 =>
    refine onLane_ownerFirst hl ?_
    exact asOwner_ownerFirst fun _ ha => by simp [Instr.actsInStopping] at ha
  -- edits
  case h_12 | h_16 | h_17 | h_18 => exact onLane_ownerFirst hl asEditor_ownerFirst
  case h_15 h tag a =>
    obtain ⟨hlow, hhigh⟩ : 1 ≤ a.steps.length ∧ a.steps.length ≤ 4 := by simpa [Instr.ranged] using hr
    show OwnerFirst s h l false (judgeProgAppend h a s)
    rw [judgeProgAppend, if_neg (by omega), onLane_of_lane hl]
    exact asEditor_ownerFirst

/-- Settles O21: the owner is checked first, STOPPING next. -/
theorem ownerOnlyRequestsAreRefused : Obligations.OwnerOnlyRequestsAreRefused := by
  intro s i h tag n l hi ha ho hn hl hr
  obtain ⟨hstranger, hstopping⟩ := ownerFirst_of_ownerOnly hi ho hn hl hr
  exact ⟨fun hown => exec_of_refusal hi ha (hstranger hown),
    fun hown hrun hact => exec_of_refusal hi ha (hstopping hown hrun hact)⟩

/-! ### Answers -/

/-- A value of two bytes, high byte first (R173). -/
theorem bytes16_eq (g : BitVec 16) : bytes16 g = [BitVec.ofNat 8 (g.toNat / 256), BitVec.ofNat 8 g.toNat] := by
  rw [← twoBytes_eq, twoBytes, BitVec.ofNat_toNat, BitVec.setWidth_eq]

theorem getLsbD_of_hosts : ∀ a b c d : Bool,
    let v : Byte := BitVec.ofBoolListLE [a, b, c, d, false, false, false, false]
    v.getLsbD 0 = a ∧ v.getLsbD 1 = b ∧ v.getLsbD 2 = c ∧ v.getLsbD 3 = d ∧ v.toNat < 16 := by decide

/-- A set of hosts has a bit for each (R173). -/
theorem hostSetByte_bits (t : HostSet) :
    (∀ j : HostId, (hostSetByte t).getLsbD j.val = look t j) ∧ (hostSetByte t).toNat < 16 := by
  obtain ⟨h0, h1, h2, h3, hlt⟩ := getLsbD_of_hosts (look t 0) (look t 1) (look t 2) (look t 3)
  refine ⟨fun j => ?_, hlt⟩
  fin_cases j
  · exact h0
  · exact h1
  · exact h2
  · exact h3

/-- A request that is taken is answered once, under its tag. -/
theorem exec_answered {s : State} {i : Instr} {h : HostId} {tag : Byte} (hi : i.asked = some (h, tag))
    (ha : s.accepts h = true) :
    (∃ st r, st ≠ .ok ∧ exec i s = .next (s.respond h tag st r))
      ∨ (∃ (t : State) (r : Reply), t.port h = s.port h ∧ exec i s = .next (t.respond h tag .ok r))
      ∨ ∃ (t : State) (k : HeldKind), t.port h = s.port h ∧ exec i s = .next (t.hold h tag k) := by
  obtain ⟨act, hj, -, hx⟩ := exec_of_asked hi
  obtain ⟨hReset, hBusy⟩ := State.state_of_accepts ha
  have kept {t : State} {a : Answer} (hv : act s = .ok (t, a)) : t.port h = s.port h :=
    ((hj s).1 t a hv).1.port_of_not_busy h (State.not_busy_of_accepts ha)
  rw [hx]
  obtain ⟨e, -⟩ | ⟨⟨q, e⟩, -⟩ | ⟨st, r, hv, e⟩ | ⟨t, r, hv, e⟩ | ⟨t, k, hv, e⟩ := s.request_cases h tag act
  · exact absurd e hReset
  · exact absurd e (hBusy q)
  · exact .inl ⟨st, r, ((hj s).2 st r hv).1, congrArg _ e⟩
  · exact .inr (.inl ⟨t, r, kept hv, congrArg _ e⟩)
  · exact .inr (.inr ⟨t, k, kept hv, congrArg _ e⟩)

/-- Settles O22: the verdict of a request is its one answer, and its codes and values are spelled by the formats. -/
theorem requestsAreAnsweredUnderTheirTag : Obligations.RequestsAreAnsweredUnderTheirTag := by
  refine ⟨fun s i h tag hi ha => exec_answered hi ha, fun s h k l a b c run effect on g hosts t link steps => ?_, rfl, rfl,
    rfl, fun m p => rfl, rfl⟩
  intro one two flag
  refine ⟨rfl, ?_, rfl, rfl, rfl, rfl, twoBytes_eq a, ?_, rfl, rfl, rfl, bytes16_eq g, ⟨_, rfl, hostSetByte_bits hosts⟩, ?_,
    rfl, rfl, rfl, rfl, rfl, ?_⟩
  · simp only [Reply.bytes, twoBytes_eq]; rfl
  · simp only [Reply.bytes, twoBytes_eq]; rfl
  · simp only [Reply.bytes, bytes16_eq]; rfl
  · simp only [Reply.bytes, twoBytes_eq]; rfl

end Sys2Proof.Machine
end


section
/-! SUPPORT. Normal forms of a lane's stop and of held responses, and the statements about the lane requests. -/

set_option Elab.async false

namespace Sys2Proof.Machine

/-! ### Events and lanes commute -/

theorem State.queueEvent_setLane (s : State) (l : LaneId) (x : Lane) (h : HostId) (b : EventBody) :
    (s.queueEvent h b).setLane l x = (s.setLane l x).queueEvent h b := by
  have hr : (s.setLane l x).inReset h = s.inReset h := rfl
  unfold State.queueEvent
  rw [hr]
  split <;> rfl

theorem State.queueEvent_port (s : State) (h : HostId) (b : EventBody) (k : HostId) :
    (s.queueEvent h b).port k = s.port k := by
  rw [State.queueEvent_eq]; rfl

theorem State.settleToggle_port (s : State) (st : Step) (sent : Bool) (k : HostId) :
    (s.settleToggle st sent).port k = s.port k := by
  rw [State.settleToggle_eq]; rfl

theorem State.queueOwner_of_owner {s : State} {l : LaneId} {h : HostId} (ho : (s.lane l).owner = some h) (b : EventBody) :
    s.queueOwner l b = s.queueEvent h b := by
  simp [State.queueOwner, ho]

theorem State.queueOwner_of_none {s : State} {l : LaneId} (ho : (s.lane l).owner = none) (b : EventBody) :
    s.queueOwner l b = s := by
  simp [State.queueOwner, ho]

/-! ### Abandoned passes -/

theorem State.settleHeld_of_none {s : State} {l : LaneId} (hh : (s.lane l).held = none) : s.settleHeld l = s := by
  simp [State.settleHeld, hh]

theorem State.settleHeld_of_held {s : State} {l : LaneId} {k : HeldStep} {st : Step} (hh : (s.lane l).held = some k)
    (hst : (s.lane l).program[(s.lane l).position]? = some st) : s.settleHeld l = s.settleToggle st k.fullySent := by
  simp [State.settleHeld, hh, hst]

theorem State.settleHeld_lane (s : State) (l m : LaneId) : (s.settleHeld l).lane m = s.lane m := by
  rw [State.settleHeld_eq]; rfl

/-- A pass abandoned at once: its lane stopped, and PASS_ABANDONED to its owner (R23, R35). -/
theorem State.stopAtOnce_of_owner {s : State} {l : LaneId} {h : HostId} (ho : (s.lane l).owner = some h) :
    s.stopAtOnce l
      = ((s.settleHeld l).setLane l (s.lane l).stopped).queueEvent h (.passAbandoned l (s.lane l).position) := by
  have hown : ((s.abandonPass l).lane l).owner = some h := by
    rw [State.abandonPass_eq, State.lane_setLane_self]
    exact ho
  unfold State.stopAtOnce
  dsimp only
  rw [State.queueOwner_of_owner hown, (State.queueEvent_aside _ h _).lane, State.queueEvent_setLane, State.abandonPass_eq,
    State.setLane_setLane, State.lane_setLane_self]
  rfl

theorem State.stopAtOnce_of_none {s : State} {l : LaneId} (ho : (s.lane l).owner = none) :
    s.stopAtOnce l = (s.settleHeld l).setLane l (s.lane l).stopped := by
  have hown : ((s.abandonPass l).lane l).owner = none := by
    rw [State.abandonPass_eq, State.lane_setLane_self]
    exact ho
  unfold State.stopAtOnce
  dsimp only
  rw [State.queueOwner_of_none hown, State.abandonPass_eq, State.setLane_setLane, State.lane_setLane_self]
  rfl

/-! ### Held responses -/

theorem Port.released_of_not_waiting {p : Port} {k : HeldKind} (h : p.waitsFor ≠ some k) (r : Reply) :
    p.released k r = p := by
  unfold Port.released
  split
  next q hq =>
    have hk : q.kind ≠ k := fun e => h (by simp [Port.waitsFor, hq, e])
    exact if_neg hk
  · rfl

theorem State.ports_ext {s t : State} (h : ∀ k, s.port k = t.port k) : s.ports = t.ports := table_ext h

theorem State.readyHeld_of_none {s : State} {k : HeldKind} (h : ∀ j, (s.port j).waitsFor ≠ some k) (r : Reply) :
    s.readyHeld k r = s := by
  have hports : (s.readyHeld k r).ports = s.ports := State.ports_ext fun j => by
    rw [State.readyHeld_port, Port.released_of_not_waiting (h j)]
  rw [State.readyHeld_eq, hports]

/-- One port waits: its held response becomes ready (R165). -/
theorem State.readyHeld_of_one {s : State} {k : HeldKind} {h : HostId} {tag : Byte}
    (hh : (s.port h).state = .busy ⟨tag, k⟩) (ho : ∀ j, j ≠ h → (s.port j).waitsFor ≠ some k) (r : Reply) :
    s.readyHeld k r = s.respond h tag .ok r := by
  have hready : (s.port h).isReady = false := by simp [Port.isReady, hh]
  have hports : (s.readyHeld k r).ports = (s.setPort h ((s.port h).answered .ok tag r)).ports :=
    State.ports_ext fun j => by
      rw [State.readyHeld_port]
      by_cases e : h = j
      · subst e
        simp [Port.released, hh]
      · rw [Port.released_of_not_waiting (ho j fun e' => e e'.symm), State.port_setPort_ne _ _ e]
  rw [State.respond_of_not_ready s h tag .ok r hready, State.readyHeld_eq, hports]
  rfl

/-! ### Leaving STOPPING -/

theorem State.releaseLane_of_holder {s : State} {l : LaneId} {e : Execution} (he : s.exec = some e)
    (hh : e.holder = .lane l) : s.releaseLane l = { s with exec := none } := by
  simp [State.releaseLane, he, hh]

theorem State.releaseLane_of_none {s : State} {l : LaneId} (he : s.exec = none) : s.releaseLane l = s := by
  simp [State.releaseLane, he]

/-! ### Claim and release -/

/-- The lowest FREE lane is the one that "any" takes (R26). -/
theorem State.freeLane_eq_some {s : State} {l : LaneId} (hl : (s.lane l).condition = .free)
    (hlow : ∀ m : LaneId, m < l → (s.lane m).condition ≠ .free) : s.freeLane = some l := by
  have used (m : LaneId) (hm : m < l) : ((s.lane m).condition == .free) = false := by simpa using hlow m hm
  have free : ((s.lane l).condition == .free) = true := by simpa using hl
  have hord : allLanes = List.finRange 8 := by decide
  rw [State.freeLane, hord, List.find?_eq_some_iff_getElem]
  refine ⟨free, l.val, by simp, by simp, fun j hj => ?_⟩
  have := used ⟨j, by omega⟩ hj
  simpa using this

theorem State.freeLane_eq_none {s : State} (h : ∀ m : LaneId, (s.lane m).condition ≠ .free) : s.freeLane = none := by
  rw [State.freeLane, List.find?_eq_none]
  intro m _
  simpa using h m

/-- Settles O25: the verdicts by the lane's condition and run state. -/
theorem laneClaimAndRelease : Obligations.LaneClaimAndRelease := by
  intro s h tag n l hn ha x k claimed
  refine ⟨fun hf => ?_, fun hf => ?_, fun hf hlow => ?_, fun hall => ?_, fun ho hr => ?_, fun ho hi hh => ?_⟩
  · exact exec_of_accept rfl ha ((onLane_of_lane hn _).trans (if_pos hf))
  · exact exec_of_refusal rfl ha ((onLane_of_lane hn _).trans (if_neg hf))
  · refine exec_of_accept (r := .claimed l) rfl ha ?_
    show judgeLaneClaim h .any s = _
    simp only [judgeLaneClaim, State.freeLane_eq_some hf hlow]
    rfl
  · refine exec_of_refusal rfl ha ?_
    show judgeLaneClaim h .any s = _
    simp only [judgeLaneClaim, State.freeLane_eq_none hall]
  · refine exec_of_accept rfl ha ((onLane_of_lane hn _).trans ((asOwner_of_owner _ ho).trans ?_))
    obtain hr | hr := hr <;> simp only [x] at hr <;> rw [hr] <;> rfl
  · refine exec_of_refusal rfl ha ((onLane_of_lane hn _).trans ((asOwner_of_owner _ ho).trans ?_))
    split
    next e => exact absurd e hi
    next e => exact absurd e hh
    · rfl

/-! ### Handover and adoption -/

theorem judgeLaneHandover_of_target {s : State} {h k : HostId} {n t : Byte} {l : LaneId} (hn : n.toNat = l.val)
    (ht : t.toNat = k.val) : judgeLaneHandover h ⟨n, t⟩ s = asOwner s h l (
      if (s.lane l).run = .stopping then refuse .laneState
      else if k = h then accept s (.usage (s.usageOf k))
      else if s.inReset k then refuse .targetAbsent
      else if s.quotaOf k < s.usageOf k + (s.lane l).program.length then refuse .quota
      else accept (s.moveLane h k l) (.usage (s.usageOf k + (s.lane l).program.length))) := by
  have hk : hostNo t = some k := small_eq_some ht
  unfold judgeLaneHandover
  rw [onLane_of_lane hn]
  simp only [hk]

/-- Settles O26: the checks of a handover and of an adoption in their order. -/
theorem laneHandoverAndAdopt : Obligations.LaneHandoverAndAdopt := by
  intro s h k tag n t v l hn ht ha x m hand adopt
  have hand_of {w : Verdict} (ho : x.owner = some h)
      (hw : (if (s.lane l).run = .stopping then refuse .laneState
        else if k = h then accept s (.usage (s.usageOf k))
        else if s.inReset k then refuse .targetAbsent
        else if s.quotaOf k < s.usageOf k + (s.lane l).program.length then refuse .quota
        else accept (s.moveLane h k l) (.usage (s.usageOf k + (s.lane l).program.length))) = w) :
      verdictOf (.laneHandover h tag (.fits ⟨n, t⟩)) s = w :=
    (judgeLaneHandover_of_target hn ht).trans ((asOwner_of_owner _ ho).trans hw)
  have adopt_of {w : Verdict} (hw : (if x.condition ≠ .orphan ∨ x.run ≠ .idle then refuse .laneState
      else if s.quotaOf h < s.usageOf h + m then refuse .quota
      else accept ((s.gainUsage h m).setLane l { x with condition := .owned h }) (.adopted m (s.usageOf h + m))) = w) :
      verdictOf (.laneAdopt h tag (.fits n)) s = w := (onLane_of_lane hn _).trans hw
  refine ⟨fun hv => ?_, fun ho => ?_, fun ho hr => ?_, fun ho hr hk => ?_, fun ho hr hk hi => ?_, fun ho hr hk hi hq => ?_,
    fun ho hr hk hi hq => ?_, fun hc => ?_, fun hc hr hq => ?_, fun hc hr hq => ?_⟩
  · refine exec_of_refusal rfl ha ((onLane_of_lane hn _).trans ?_)
    have : hostNo v = none := small_eq_none hv
    simp only [this]
  · exact exec_of_refusal rfl ha ((judgeLaneHandover_of_target hn ht).trans (asOwner_of_stranger _ ho))
  · exact exec_of_refusal rfl ha (hand_of ho (if_pos hr))
  · subst hk
    exact exec_of_accept rfl ha (hand_of ho ((if_neg hr).trans (if_pos rfl)))
  · exact exec_of_refusal rfl ha (hand_of ho ((if_neg hr).trans ((if_neg hk).trans (if_pos hi))))
  · exact exec_of_refusal rfl ha
      (hand_of ho ((if_neg hr).trans ((if_neg hk).trans ((if_neg (by simp [hi])).trans (if_pos hq)))))
  · have verdict := hand_of ho ((if_neg hr).trans ((if_neg hk).trans ((if_neg (by simp [hi])).trans (if_neg (Nat.not_lt.mpr hq)))))
    refine (exec_of_accept rfl ha verdict).trans ?_
    have hne : h ≠ k := fun e => hk e.symm
    have huse : (s.loseUsage h m).usageOf k = s.usageOf k := look_put_ne _ _ hne
    have hmove : s.moveLane h k l = { s with
        usage := put (put s.usage h (s.usageOf h - m)) k (s.usageOf k + m) }.setLane l { x with condition := .owned k } := by
      rw [← huse]
      rfl
    rw [hmove]
  · exact exec_of_refusal rfl ha (adopt_of (if_pos hc))
  · exact exec_of_refusal rfl ha (adopt_of ((if_neg (by simp [hc, hr])).trans (if_pos hq)))
  · exact exec_of_accept rfl ha (adopt_of ((if_neg (by simp [hc, hr])).trans (if_neg (Nat.not_lt.mpr hq))))

/-! ### Arming and disarming -/

/-- Settles O28: the two verdicts by run state. -/
theorem laneArmAndDisarm : Obligations.LaneArmAndDisarm := by
  intro s h tag n l hn ha x arm disarm
  have arm_of {w : Verdict} (ho : x.owner = some h) (hw : (match x.run with
      | .idle | .halted =>
        if x.program = [] then refuse .empty
        else accept (s.setLane l { x with run := .armed, position := 0, pending := false, disarmAtEnd := false })
          (.armed x.program.length)
      | _ => refuse .laneState) = w) : verdictOf (.laneArm h tag (.fits n)) s = w :=
    (onLane_of_lane hn _).trans ((asOwner_of_owner _ ho).trans hw)
  have disarm_of {w : Verdict} (ho : x.owner = some h) (hw : (match x.run with
      | .armed => accept (s.setLane l { x with run := .idle }) .nothing
      | .idle | .halted => accept s .nothing
      | .stopping => refuse .laneState
      | .bankWait | .ready | .running | .suspended | .retryWait | .atBreak =>
        accept (s.setLane l { x with disarmAtEnd := true }) .nothing) = w) :
      verdictOf (.laneDisarm h tag (.fits n)) s = w :=
    (onLane_of_lane hn _).trans ((asOwner_of_owner _ ho).trans hw)
  refine ⟨fun ho => ⟨?_, ?_⟩, fun ho => ⟨fun hr hp => ?_, fun hr hp => ?_, fun hi hh => ?_, fun hr => ?_, fun hr => ?_,
    fun hr => ?_, fun hr => ?_⟩⟩
  · exact exec_of_refusal rfl ha ((onLane_of_lane hn _).trans (asOwner_of_stranger _ ho))
  · exact exec_of_refusal rfl ha ((onLane_of_lane hn _).trans (asOwner_of_stranger _ ho))
  · refine exec_of_accept rfl ha (arm_of ho ?_)
    obtain hr | hr := hr <;> rw [hr] <;> exact if_neg hp
  · refine exec_of_refusal rfl ha (arm_of ho ?_)
    obtain hr | hr := hr <;> rw [hr] <;> exact if_pos hp
  · refine exec_of_refusal rfl ha (arm_of ho ?_)
    split
    next e => exact absurd e hi
    next e => exact absurd e hh
    · rfl
  · exact exec_of_accept rfl ha (disarm_of ho (by rw [hr]))
  · refine exec_of_accept rfl ha (disarm_of ho ?_)
    obtain hr | hr := hr <;> rw [hr]
  · refine exec_of_accept rfl ha (disarm_of ho ?_)
    obtain hr | hr | hr | hr | hr | hr := hr <;> rw [hr]
  · exact exec_of_refusal rfl ha (disarm_of ho (by rw [hr]))

/-! ### Arrivals -/

theorem State.chooseBank_setLane (s : State) (l : LaneId) {x : Lane} (hx : x.front = (s.lane l).front) :
    (s.setLane l x).chooseBank l = s.chooseBank l := by
  unfold State.chooseBank
  rw [State.lane_setLane_self, hx]
  rfl

theorem State.takeBank_of_some {s : State} {l : LaneId} {b : BankId} (h : s.chooseBank l = some b) :
    s.takeBank l = (s.clearBank l b).setLane l { s.lane l with run := .ready, write := some b, waiting := false } := by
  unfold State.takeBank
  rw [h]
  rfl

theorem State.takeBank_of_none {s : State} {l : LaneId} (h : s.chooseBank l = none) :
    s.takeBank l = s.setLane l { s.lane l with run := .bankWait, waiting := true } := by
  unfold State.takeBank
  rw [h]

/-- A pass start with a bank to take (R45, R121). -/
theorem State.passStart_of_some {s : State} {l : LaneId} {b : BankId} (h : s.chooseBank l = some b) :
    s.passStart l = (s.setBank l b { s.bank l b with records := fill 64 ⟨none, 0, []⟩ }).setLane l { s.lane l with
      run := .ready
      position := 0
      errorCount := 0
      write := some b
      waiting := false } := by
  have hchoose := (s.chooseBank_setLane l (x := { s.lane l with position := 0, errorCount := 0 }) rfl).trans h
  have hclear : ((s.setLane l { s.lane l with position := 0, errorCount := 0 }).clearBank l b)
      = (s.clearBank l b).setLane l { s.lane l with position := 0, errorCount := 0 } := rfl
  rw [State.passStart_eq, State.takeBank_of_some hchoose, hclear, State.setLane_setLane, State.lane_setLane_self]
  rfl

/-- A pass start with every bank taken waits for one (R45, R122). -/
theorem State.passStart_of_none {s : State} {l : LaneId} (h : s.chooseBank l = none) :
    s.passStart l = s.setLane l { s.lane l with run := .bankWait, position := 0, errorCount := 0, waiting := true } := by
  have hchoose := (s.chooseBank_setLane l (x := { s.lane l with position := 0, errorCount := 0 }) rfl).trans h
  rw [State.passStart_eq, State.takeBank_of_none hchoose, State.setLane_setLane, State.lane_setLane_self]

theorem State.arrive_of_armed {s : State} {l : LaneId} (hr : (s.lane l).run = .armed) :
    s.arrive l = (s.passStart l, .started) := by
  simp only [State.arrive, hr]

/-- A trigger arrival within a pass (R46, R47). -/
theorem State.arrive_of_pass {s : State} {l : LaneId} (hr : (s.lane l).run = .bankWait ∨ (s.lane l).run = .ready
      ∨ (s.lane l).run = .running ∨ (s.lane l).run = .suspended ∨ (s.lane l).run = .retryWait) :
    s.arrive l = if (s.lane l).pending then (s.countOverrun l, .overrun)
      else (s.setLane l { s.lane l with pending := true }, .pending) := by
  obtain hr | hr | hr | hr | hr := hr <;> simp only [State.arrive, hr]

/-- Settles O29: the table of R44, and LANE_RUN over it. -/
theorem arrivalActsByRunState : Obligations.ArrivalActsByRunState := by
  intro s h tag m l b x n
  refine ⟨fun hr => ?_, fun hr hf hp hlow => ?_, fun hr hall => ?_, fun hr => ?_, fun hr => ?_, fun hm ha => ⟨fun ho hr => ?_,
    fun ho hr => ?_, fun ho => ?_⟩⟩
  · obtain hr | hr | hr := hr <;> simp only [x] at hr <;> simp only [State.arrive, hr]
  · rw [State.arrive_of_armed hr, State.passStart_of_some (State.chooseBank_eq_some hf hp hlow)]
  · rw [State.arrive_of_armed hr, State.passStart_of_none (State.chooseBank_eq_none hall)]
  · simp only [x] at hr
    simp only [State.arrive, hr, x]
  · have noted := State.arrive_of_pass hr
    refine ⟨fun hp => ?_, fun hp hov => ?_, fun hp hov k hk => ?_⟩
    · rw [noted, if_neg (by simp [show (s.lane l).pending = false from hp])]
    · rw [noted, if_pos hp]
      obtain ⟨e, -⟩ | ⟨-, e⟩ := s.countOverrun_cases l
      · exact absurd e hov
      · rw [e]
        rfl
    · rw [noted, if_pos hp]
      obtain ⟨-, e⟩ | ⟨e, -⟩ := s.countOverrun_cases l
      · have hown : ((s.setLane l { s.lane l with overrun := 1 }).lane l).owner = some k := by
          rw [State.lane_setLane_self]
          exact hk
        rw [e, State.queueOwner_of_owner hown]
      · exact absurd hov e
  · exact exec_of_accept rfl ha ((onLane_of_lane hm _).trans ((asOwner_of_owner _ ho).trans (if_neg hr)))
  · exact exec_of_refusal rfl ha ((onLane_of_lane hm _).trans ((asOwner_of_owner _ ho).trans (if_pos hr)))
  · exact exec_of_refusal rfl ha ((onLane_of_lane hm _).trans (asOwner_of_stranger _ ho))

/-! ### Stops -/

section
variable {s : State} {l : LaneId}

theorem State.stopLane_of_armed (hr : (s.lane l).run = .armed) : s.stopLane l = s.setLane l { s.lane l with run := .idle } := by
  simp only [State.stopLane, hr]

theorem State.stopLane_of_halted (hr : (s.lane l).run = .halted) :
    s.stopLane l = s.setLane l { s.lane l with run := .idle, position := 0 } := by
  simp only [State.stopLane, hr]

theorem State.stopLane_of_still (hr : (s.lane l).run = .idle ∨ (s.lane l).run = .stopping) : s.stopLane l = s := by
  obtain hr | hr := hr <;> simp only [State.stopLane, hr]

theorem State.stopLane_of_waiting (hr : (s.lane l).run = .bankWait ∨ (s.lane l).run = .ready ∨ (s.lane l).run = .suspended
    ∨ (s.lane l).run = .retryWait ∨ (s.lane l).run = .atBreak) : s.stopLane l = s.stopAtOnce l := by
  obtain hr | hr | hr | hr | hr := hr <;> simp only [State.stopLane, hr]

theorem State.laneInFlight_of_exec {e : Execution} (he : s.exec = some e) (hh : e.holder = .lane l) :
    s.laneInFlight l = e.inFlight := by
  simp [State.laneInFlight, he, hh]

theorem State.stopLane_of_inFlight (hr : (s.lane l).run = .running) (hf : s.laneInFlight l = true) :
    s.stopLane l = s.setLane l { s.lane l with run := .stopping } := by
  simp only [State.stopLane, hr, hf, if_true]

theorem State.stopLane_of_not_inFlight (hr : (s.lane l).run = .running) (hf : s.laneInFlight l = false) :
    s.stopLane l = (s.settleStopped l).leaveStopping l := by
  simp [State.stopLane, hr, hf]

theorem State.settleStopped_of_holder {e : Execution} (he : s.exec = some e) (hh : e.holder = .lane l) :
    s.settleStopped l = s.settleToggle e.step e.fullySent := by
  simp [State.settleStopped, he, hh]

end

theorem State.queueEvent_exec (s : State) (h : HostId) (b : EventBody) (e : Option Execution) :
    { s.queueEvent h b with exec := e } = { s with exec := e }.queueEvent h b := by
  have hr : { s with exec := e }.inReset h = s.inReset h := rfl
  unfold State.queueEvent
  rw [hr]
  split <;> rfl

/-- A lane with no step held leaves STOPPING: its pass abandoned, its grant released, its LANE_STOP answered (R36). -/
theorem State.leaveStopping_of_owner {s : State} {l : LaneId} {h : HostId} (ho : (s.lane l).owner = some h)
    (hh : (s.lane l).held = none) : s.leaveStopping l
      = (((s.setLane l (s.lane l).stopped).releaseLane l).queueEvent h
          (.passAbandoned l (s.lane l).position)).readyHeld (.laneStop l) (.stopped .running) := by
  have release (u : State) (b : EventBody) : (u.queueEvent h b).releaseLane l = (u.releaseLane l).queueEvent h b := by
    have hx : (u.queueEvent h b).exec = u.exec := (u.queueEvent_aside h b).exec
    obtain ⟨e, he, hh', e'⟩ | ⟨hn, e'⟩ := u.releaseLane_cases l
    · rw [e', State.releaseLane_of_holder (hx.trans he) hh', State.queueEvent_exec]
    · rw [e']
      obtain ⟨e, he, hh', -⟩ | ⟨-, e''⟩ := (u.queueEvent h b).releaseLane_cases l
      · rw [hx] at he
        simp [he, hh'] at hn
      · exact e''
  rw [State.leaveStopping, State.stopAtOnce_of_owner ho, State.settleHeld_of_none hh, release]

theorem State.leaveStopping_of_none {s : State} {l : LaneId} (ho : (s.lane l).owner = none)
    (hh : (s.lane l).held = none) : s.leaveStopping l
      = ((s.setLane l (s.lane l).stopped).releaseLane l).readyHeld (.laneStop l) (.stopped .running) := by
  rw [State.leaveStopping, State.stopAtOnce_of_none ho, State.settleHeld_of_none hh]

theorem State.settleToggle_lane (s : State) (st : Step) (sent : Bool) (l : LaneId) :
    (s.settleToggle st sent).lane l = s.lane l := (s.settleToggle_aside st sent).lane l

/-- Settles O30: LANE_STOP by run state, off the line and on it. -/
theorem laneStop : Obligations.LaneStop := by
  intro s h tag n l e hn ha ho x got stopped
  have stop_of (hr : (s.lane l).run ≠ .stopping) : judgeLaneStop h n s
      = if ((s.stopLane l).lane l).run = .stopping then .ok (s.stopLane l, .held (.laneStop l))
        else accept (s.stopLane l) (.stopped (s.lane l).run) :=
    (onLane_of_lane hn _).trans ((asOwner_of_owner _ ho).trans (if_neg hr))
  have answered {t : State} {r : RunState} (hr : x.run = r) (hne : r ≠ .stopping) (ht : s.stopLane l = t)
      (hidle : (t.lane l).run ≠ .stopping) : got = .next (t.respond h tag .ok (.stopped r)) := by
    refine exec_of_accept rfl ha ((stop_of ?_).trans ?_)
    · rw [show (s.lane l).run = r from hr]
      exact hne
    · rw [ht, if_neg hidle, show (s.lane l).run = r from hr]
  have atOnce (hr : x.run = .bankWait ∨ x.run = .ready ∨ x.run = .suspended ∨ x.run = .retryWait ∨ x.run = .atBreak) :
      got = .next ((((s.settleHeld l).setLane l stopped).queueEvent h (.passAbandoned l x.position)).respond h tag .ok
        (.stopped x.run)) := by
    refine answered rfl ?_ ((State.stopLane_of_waiting hr).trans (State.stopAtOnce_of_owner ho)) ?_
    · obtain hr | hr | hr | hr | hr := hr <;> simp [hr]
    · rw [(State.queueEvent_aside _ _ _).lane]
      simp
  refine ⟨fun hr => ?_, fun hr => ?_, fun hr => ?_, fun hr hh => ?_, fun k st hr hh hst => ?_, fun hr he hh hf => ?_,
    fun hr he hh hf hheld hports => ?_, fun hr => ?_⟩
  · exact answered hr (by simp) (State.stopLane_of_still (.inl hr)) (by simp [show (s.lane l).run = _ from hr])
  · exact answered hr (by simp) (State.stopLane_of_armed hr) (by simp)
  · exact answered hr (by simp) (State.stopLane_of_halted hr) (by simp)
  · rw [atOnce hr, State.settleHeld_of_none hh]
  · rw [atOnce (by tauto), State.settleHeld_of_held hh hst]
  · have hstop := State.stopLane_of_inFlight hr ((State.laneInFlight_of_exec he hh).trans hf)
    refine exec_of_held rfl ha ((stop_of (by simp [show (s.lane l).run = _ from hr])).trans ?_)
    rw [hstop, State.lane_setLane_self]
    rfl
  · have settled := s.settleToggle_aside e.step e.fullySent
    have hlane : (s.settleToggle e.step e.fullySent).lane l = s.lane l := settled.lane l
    have hstop : s.stopLane l = ({ s.settleToggle e.step e.fullySent with exec := none }.setLane l stopped).queueEvent h
        (.passAbandoned l x.position) := by
      rw [State.stopLane_of_not_inFlight hr ((State.laneInFlight_of_exec he hh).trans hf),
        State.settleStopped_of_holder he hh, State.leaveStopping_of_owner (hlane ▸ ho) (hlane ▸ hheld), hlane,
        State.releaseLane_of_holder (s := (s.settleToggle e.step e.fullySent).setLane l (s.lane l).stopped)
          (settled.exec.trans he) hh]
      refine State.readyHeld_of_none (fun j hj => hports j ?_) _
      rw [State.queueEvent_port] at hj
      rw [← hj, ← State.settleToggle_port]
      rfl
    refine answered hr (by simp) hstop ?_
    rw [(State.queueEvent_aside _ _ _).lane, State.lane_setLane_self]
    simp [stopped]
  · exact exec_of_refusal rfl ha ((onLane_of_lane hn _).trans ((asOwner_of_owner _ ho).trans (if_pos hr)))

/-! ### Queries -/

/-- Settles O31: the fields as they stand, and their bytes. -/
theorem laneQuery : Obligations.LaneQuery := by
  intro s h tag n l hn ha x fields held bank
  refine ⟨exec_of_accept rfl ha (onLane_of_lane hn _), fun ho => ?_, fun ho => ?_, ?_⟩
  · exact exec_of_accept rfl ha ((onLane_of_lane hn _).trans (asOwner_of_owner _ ho))
  · exact exec_of_refusal rfl ha ((onLane_of_lane hn _).trans (asOwner_of_stranger _ ho))
  · have hbank (b : Option BankId) : optByte b = bank b := by cases b <;> rfl
    have hflag (b : Bool) : flagByte b = if b then 1 else 0 := rfl
    show LaneInfo.bytes _ = _
    simp only [LaneInfo.bytes, bytes16_eq, hbank, hflag, held]
    cases x.condition <;>
      simp only [Reply.bytes, byteOf, Condition.code, List.append_assoc, List.cons_append, List.nil_append]

end Sys2Proof.Machine
end


section
/-! SUPPORT. The ranges of operands as equivalences, and the statements about step validity and the program requests. -/

set_option Elab.async false

namespace Sys2Proof.Machine

/-! ### Operands -/

theorem small_eq_some_iff {n : Nat} {b : Byte} {i : Fin n} : small n b = some i ↔ b.toNat = i.val := by
  refine ⟨fun h => ?_, small_eq_some⟩
  unfold small at h
  split at h
  · obtain rfl := Option.some.inj h
    rfl
  · simp at h

theorem byteOf_of_toNat {b : Byte} {n : Nat} (h : b.toNat = n) : byteOf n = b := by
  subst h
  simp [byteOf]

theorem countOf_eq_some_iff {b : Byte} {c : Nat} : countOf b = some c ↔ b.toNat = c ∧ 1 ≤ c ∧ c ≤ 8 := by
  unfold countOf
  split
  · simp only [Option.some.injEq]
    constructor <;> intro h <;> omega
  · simp only [reduceCtorEq, false_iff]
    omega

theorem intoOf_eq_some_none_iff {b : Byte} : intoOf b = some none ↔ b = 0xFF#8 := by
  unfold intoOf
  split
  next h => simp [h]
  next h => simp [h]

theorem intoOf_eq_some_some_iff {b : Byte} {r : RecordId} : intoOf b = some (some r) ↔ b.toNat = r.val := by
  unfold intoOf
  split
  next h =>
    subst h
    simp
    omega
  · simp [small_eq_some_iff]

/-- An into that is read goes out as it came in (R174). -/
theorem optByte_of_intoOf {b : Byte} {i : Option RecordId} (h : intoOf b = some i) : optByte i = b := by
  cases i with
  | none => exact (intoOf_eq_some_none_iff.mp h).symm
  | some r => exact byteOf_of_toNat (intoOf_eq_some_some_iff.mp h)

theorem exists_intoOf_iff {b : Byte} : (∃ i, intoOf b = some i) ↔ b.toNat ≤ 63 ∨ b = 0xFF#8 := by
  constructor
  · rintro ⟨i, h⟩
    cases i with
    | none => exact .inr (intoOf_eq_some_none_iff.mp h)
    | some r =>
      have := intoOf_eq_some_some_iff.mp h
      exact .inl (by omega)
  · rintro (h | h)
    · exact ⟨some ⟨b.toNat, by omega⟩, intoOf_eq_some_some_iff.mpr rfl⟩
    · exact ⟨none, intoOf_eq_some_none_iff.mpr h⟩

theorem exists_small_iff {n : Nat} {b : Byte} : (∃ i, small n b = some i) ↔ b.toNat < n :=
  ⟨fun ⟨i, h⟩ => (small_eq_some_iff.mp h) ▸ i.isLt, fun h => ⟨⟨b.toNat, h⟩, small_eq_some rfl⟩⟩

theorem dataOk_iff {data : List Byte} : dataOk data = true ↔ 1 ≤ data.length ∧ data.length ≤ 8 := by
  simp [dataOk]

/-! ### Steps by kind (R1) -/

section
variable {seg st idx count lane record into : Byte} {data : List Byte} {x : Step}

theorem checked_read_iff : RawStep.checked (.read seg st idx count into) = some x ↔ ∃ g n c i,
    small 4 seg = some g ∧ small 31 st = some n ∧ countOf count = some c ∧ intoOf into = some i
      ∧ .read g n idx c i = x := by
  simp only [RawStep.checked]
  split <;> simp_all

theorem checked_write_iff : RawStep.checked (.write seg st idx into data) = some x ↔ ∃ g n i,
    small 4 seg = some g ∧ small 31 st = some n ∧ intoOf into = some i ∧ dataOk data = true
      ∧ .write g n idx data i = x := by
  simp only [RawStep.checked]
  split <;> simp_all

theorem checked_broadcast_iff : RawStep.checked (.broadcast seg idx into data) = some x ↔ ∃ g i,
    small 4 seg = some g ∧ intoOf into = some i ∧ dataOk data = true ∧ .broadcast g idx data i = x := by
  simp only [RawStep.checked]
  split <;> simp_all

theorem checked_copy_iff : RawStep.checked (.copy seg st idx lane record into) = some x ↔ ∃ g n y r i,
    small 4 seg = some g ∧ small 31 st = some n ∧ small 8 lane = some y ∧ small 64 record = some r
      ∧ intoOf into = some i ∧ .copy g n idx y r i = x := by
  simp only [RawStep.checked]
  split <;> simp_all

end

/-- A step of a program is a checked step, a READ with an into (R1). -/
theorem validStep_iff {r : RawStep} {x : Step} :
    validStep r = some x ↔ RawStep.checked r = some x ∧ x.readHasInto = true := by
  unfold validStep
  split
  next st h =>
    rw [h]
    split
    next hs => simp only [Option.some.injEq]; exact ⟨fun e => ⟨e, e ▸ hs⟩, fun e => e.1⟩
    next hs =>
      simp only [Option.some.injEq, reduceCtorEq, false_iff, not_and]
      rintro rfl
      exact hs
  next h => simp [h]

theorem isSome_eq_decide {α : Type} {o : Option α} {p : Prop} [Decidable p] (h : (∃ a, o = some a) ↔ p) :
    o.isSome = decide p := by
  rw [Bool.eq_iff_iff, Option.isSome_iff_exists, decide_eq_true_iff, h]

/-- Settles O32: each kind by the ranges of its fields. -/
theorem stepValidity : Obligations.StepValidity := by
  intro seg st idx count lane record into kind tag data rest place noted sized
  refine ⟨isSome_eq_decide ⟨?_, ?_⟩, isSome_eq_decide ⟨?_, ?_⟩, isSome_eq_decide ⟨?_, ?_⟩, isSome_eq_decide ⟨?_, ?_⟩, rfl,
    rfl, fun x hx => ?_, fun x hx => ?_, fun x hx => ?_, fun x hx => ?_⟩
  · rintro ⟨x, hx⟩
    obtain ⟨h, hinto⟩ := validStep_iff.mp hx
    obtain ⟨g, n, c, i, hg, hn, hc, hi, rfl⟩ := checked_read_iff.mp h
    have hg := small_eq_some_iff.mp hg
    have hn := small_eq_some_iff.mp hn
    have hc := countOf_eq_some_iff.mp hc
    cases i with
    | none => simp [Step.readHasInto] at hinto
    | some r =>
      have hr := intoOf_eq_some_some_iff.mp hi
      exact ⟨⟨by omega, by omega⟩, by omega, by omega, by omega⟩
  · rintro ⟨⟨hg, hn⟩, hc, hc', hi⟩
    refine ⟨.read ⟨seg.toNat, by omega⟩ ⟨st.toNat, by omega⟩ idx count.toNat (some ⟨into.toNat, by omega⟩),
      validStep_iff.mpr ⟨checked_read_iff.mpr ⟨_, _, _, _, small_eq_some rfl, small_eq_some rfl,
        countOf_eq_some_iff.mpr ⟨rfl, hc, hc'⟩, intoOf_eq_some_some_iff.mpr rfl, rfl⟩, rfl⟩⟩
  · rintro ⟨x, hx⟩
    obtain ⟨g, n, i, hg, hn, hi, hd, -⟩ := checked_write_iff.mp (validStep_iff.mp hx).1
    have hg := small_eq_some_iff.mp hg
    have hn := small_eq_some_iff.mp hn
    exact ⟨⟨by omega, by omega⟩, exists_intoOf_iff.mp ⟨i, hi⟩, dataOk_iff.mp hd⟩
  · rintro ⟨⟨hg, hn⟩, hi, hd⟩
    obtain ⟨i, hi⟩ := exists_intoOf_iff.mpr hi
    exact ⟨_, validStep_iff.mpr ⟨checked_write_iff.mpr ⟨⟨seg.toNat, by omega⟩, ⟨st.toNat, by omega⟩, i, small_eq_some rfl,
      small_eq_some rfl, hi, dataOk_iff.mpr hd, rfl⟩, rfl⟩⟩
  · rintro ⟨x, hx⟩
    obtain ⟨g, i, hg, hi, hd, -⟩ := checked_broadcast_iff.mp (validStep_iff.mp hx).1
    have hg := small_eq_some_iff.mp hg
    exact ⟨by omega, exists_intoOf_iff.mp ⟨i, hi⟩, dataOk_iff.mp hd⟩
  · rintro ⟨hg, hi, hd⟩
    obtain ⟨i, hi⟩ := exists_intoOf_iff.mpr hi
    exact ⟨_, validStep_iff.mpr ⟨checked_broadcast_iff.mpr ⟨⟨seg.toNat, by omega⟩, i, small_eq_some rfl, hi,
      dataOk_iff.mpr hd, rfl⟩, rfl⟩⟩
  · rintro ⟨x, hx⟩
    obtain ⟨g, n, y, r, i, hg, hn, hy, hr, hi, -⟩ := checked_copy_iff.mp (validStep_iff.mp hx).1
    have hg := small_eq_some_iff.mp hg
    have hn := small_eq_some_iff.mp hn
    have hy := small_eq_some_iff.mp hy
    have hr := small_eq_some_iff.mp hr
    exact ⟨⟨by omega, by omega⟩, by omega, by omega, exists_intoOf_iff.mp ⟨i, hi⟩⟩
  · rintro ⟨⟨hg, hn⟩, hy, hr, hi⟩
    obtain ⟨i, hi⟩ := exists_intoOf_iff.mpr hi
    exact ⟨_, validStep_iff.mpr ⟨checked_copy_iff.mpr ⟨⟨seg.toNat, by omega⟩, ⟨st.toNat, by omega⟩, ⟨lane.toNat, by omega⟩,
      ⟨record.toNat, by omega⟩, i, small_eq_some rfl, small_eq_some rfl, small_eq_some rfl, small_eq_some rfl, hi, rfl⟩,
      rfl⟩⟩
  · obtain ⟨g, n, c, i, hg, hn, hc, hi, rfl⟩ := checked_read_iff.mp (validStep_iff.mp hx).1
    simp only [encodeStep, byteOf_of_toNat (small_eq_some_iff.mp hg), byteOf_of_toNat (small_eq_some_iff.mp hn),
      byteOf_of_toNat (countOf_eq_some_iff.mp hc).1, optByte_of_intoOf hi]
  · obtain ⟨g, n, i, hg, hn, hi, hd, rfl⟩ := checked_write_iff.mp (validStep_iff.mp hx).1
    simp only [encodeStep, byteOf_of_toNat (small_eq_some_iff.mp hg), byteOf_of_toNat (small_eq_some_iff.mp hn),
      optByte_of_intoOf hi]
  · obtain ⟨g, i, hg, hi, hd, rfl⟩ := checked_broadcast_iff.mp (validStep_iff.mp hx).1
    simp only [encodeStep, byteOf_of_toNat (small_eq_some_iff.mp hg), optByte_of_intoOf hi]
  · obtain ⟨g, n, y, r, i, hg, hn, hy, hr, hi, rfl⟩ := checked_copy_iff.mp (validStep_iff.mp hx).1
    simp only [encodeStep, byteOf_of_toNat (small_eq_some_iff.mp hg), byteOf_of_toNat (small_eq_some_iff.mp hn),
      byteOf_of_toNat (small_eq_some_iff.mp hy), byteOf_of_toNat (small_eq_some_iff.mp hr), optByte_of_intoOf hi]

/-! ### Edits of programs -/

theorem RunState.editable_iff {r : RunState} : r.editable = true ↔ r = .idle ∨ r = .armed ∨ r = .halted := by
  cases r <;> simp [RunState.editable]

section
variable {s : State} {h : HostId} {l : LaneId}

theorem asEditor_of_open (ho : (s.lane l).owner = some h)
    (hr : (s.lane l).run = .idle ∨ (s.lane l).run = .armed ∨ (s.lane l).run = .halted) (v : Verdict) :
    asEditor s h l v = v :=
  (asOwner_of_owner _ ho).trans (if_pos (RunState.editable_iff.mpr hr))

theorem asEditor_of_closed (ho : (s.lane l).owner = some h)
    (hr : ¬ ((s.lane l).run = .idle ∨ (s.lane l).run = .armed ∨ (s.lane l).run = .halted)) (v : Verdict) :
    asEditor s h l v = refuse .laneState :=
  (asOwner_of_owner _ ho).trans (if_neg fun he => hr (RunState.editable_iff.mp he))

/-- The answer to an edit: what it left of the program, the usage and the free count (R16). -/
theorem edited_of {t : State} {p : List Step} {used left : Nat} (hp : (t.lane l).program = p) (hu : t.usageOf h = used)
    (hf : t.freeCount = left) : edited t h l = accept t (.edited p.length used left) := by
  rw [edited, hp, hu, hf]

/-- Steps placed within the three limits (R6, R16). -/
theorem grow_of_room {k : Nat} {program : List Step} (hm : (s.lane l).program.length + k ≤ 64)
    (hq : s.usageOf h + k ≤ s.quotaOf h) (hf : k ≤ s.freeCount) :
    s.grow h l k program
      = accept ({ s with
          freeCount := s.freeCount - k
          usage := put s.usage h (s.usageOf h + k) }.setLane l { s.lane l with program := program })
        (.edited program.length (s.usageOf h + k) (s.freeCount - k)) := by
  have hm' : (s.lane l).program.length + k ≤ Config.programMax := hm
  unfold State.grow
  rw [if_neg (Nat.not_lt.mpr hm'), if_neg (Nat.not_lt.mpr hq), if_neg (Nat.not_lt.mpr hf)]
  have hprog : (((s.placeSteps h k).setProgram l program).lane l).program = program := by
    simp [State.setProgram]
  have huse : ((s.placeSteps h k).setProgram l program).usageOf h = s.usageOf h + k := by
    simp [State.setProgram, State.usageOf, State.placeSteps]
  exact edited_of hprog huse rfl

/-- Steps given back to the pool (R12, R13, R16). -/
theorem edited_freeSteps {k : Nat} {program : List Step} :
    edited ((s.freeSteps h k).setProgram l program) h l
      = accept ({ s with
          freeCount := s.freeCount + k
          usage := put s.usage h (s.usageOf h - k) }.setLane l { s.lane l with program := program })
        (.edited program.length (s.usageOf h - k) (s.freeCount + k)) := by
  have hprog : (((s.freeSteps h k).setProgram l program).lane l).program = program := by
    simp [State.setProgram]
  have huse : ((s.freeSteps h k).setProgram l program).usageOf h = s.usageOf h - k := by
    simp [State.setProgram, State.usageOf, State.freeSteps]
  exact edited_of hprog huse rfl

/-- The three limits, in their order (R6). -/
theorem grow_of_full {k : Nat} {program : List Step} (hm : 64 < (s.lane l).program.length + k) :
    s.grow h l k program = refuse .programFull := if_pos hm

theorem grow_of_quota {k : Nat} {program : List Step} (hm : (s.lane l).program.length + k ≤ 64)
    (hq : s.quotaOf h < s.usageOf h + k) : s.grow h l k program = refuse .quota :=
  (if_neg (Nat.not_lt.mpr hm)).trans (if_pos hq)

theorem grow_of_exhausted {k : Nat} {program : List Step} (hm : (s.lane l).program.length + k ≤ 64)
    (hq : s.usageOf h + k ≤ s.quotaOf h) (hf : s.freeCount < k) : s.grow h l k program = refuse .noStep :=
  (if_neg (Nat.not_lt.mpr hm)).trans ((if_neg (Nat.not_lt.mpr hq)).trans (if_pos hf))

/-- An overwritten step leaves length, usage and free count (R11, R16). -/
theorem edited_setProgram {program : List Step} :
    edited (s.setProgram l program) h l = accept (s.setLane l { s.lane l with program := program })
      (.edited program.length (s.usageOf h) s.freeCount) := by
  have hprog : ((s.setProgram l program).lane l).program = program := by
    simp [State.setProgram]
  exact edited_of hprog rfl rfl

end

theorem validSteps_eq_some_iff {raw : List RawStep} {steps : List Step} :
    validSteps raw = some steps ↔ raw.map validStep = steps.map some := by
  induction raw generalizing steps with
  | nil => cases steps <;> simp [validSteps]
  | cons r rest ih =>
    cases steps with
    | nil =>
      simp only [validSteps, List.map_cons, List.map_nil, reduceCtorEq, iff_false]
      split <;> simp
    | cons st sts =>
      simp only [List.map_cons, List.cons.injEq, ← ih, validSteps]
      split <;> simp_all

theorem validSteps_eq_none {raw : List RawStep} (h : ∃ r ∈ raw, validStep r = none) : validSteps raw = none := by
  obtain ⟨r, hr, hv⟩ := h
  refine Option.eq_none_iff_forall_ne_some.mpr fun steps e => ?_
  have hmem : validStep r ∈ steps.map some := validSteps_eq_some_iff.mp e ▸ List.mem_map_of_mem hr
  simp [hv] at hmem

theorem length_of_validSteps {raw : List RawStep} {steps : List Step} (h : raw.map validStep = steps.map some) :
    steps.length = raw.length := by
  simpa using (congrArg List.length h).symm

/-- Settles O33: the number of steps, the run state, the steps, then the three limits. -/
theorem progAppend : Obligations.ProgAppend := by
  intro s h tag n l raw steps hn ha ho x k got open_
  have counted (hk : 1 ≤ k) (hk' : k ≤ 4) : judgeProgAppend h ⟨n, raw⟩ s = asEditor s h l (match validSteps raw with
      | none => refuse .badArgument
      | some sts => s.grow h l sts.length ((s.lane l).program ++ sts)) :=
    (if_neg (not_or.mpr ⟨Nat.not_lt.mpr hk, Nat.not_lt.mpr hk'⟩)).trans (onLane_of_lane hn _)
  refine ⟨fun hk => ?_, fun hk hk' hr => ?_, fun hk hk' hr hbad => ?_, fun hk hk' hr hv => ?_⟩
  · refine exec_of_refusal rfl ha (if_pos ?_)
    exact hk.imp (fun e => Nat.lt_one_iff.mpr e) id
  · exact exec_of_refusal rfl ha ((counted hk hk').trans (asEditor_of_closed ho hr _))
  · refine exec_of_refusal rfl ha ((counted hk hk').trans ((asEditor_of_open ho hr _).trans ?_))
    rw [validSteps_eq_none hbad]
  · have placed : judgeProgAppend h ⟨n, raw⟩ s = s.grow h l k (x.program ++ steps) := by
      rw [counted hk hk', asEditor_of_open ho hr, validSteps_eq_some_iff.mpr hv]
      simp only [length_of_validSteps hv]
      rfl
    refine ⟨fun hm => ?_, fun hm hq => ?_, fun hm hq hf => ?_, fun hm hq hf => ?_⟩
    · exact exec_of_refusal rfl ha (placed.trans (grow_of_full hm))
    · exact exec_of_refusal rfl ha (placed.trans (grow_of_quota hm hq))
    · exact exec_of_refusal rfl ha (placed.trans (grow_of_exhausted hm hq hf))
    · refine (exec_of_accept (i := .progAppend h tag (.fits ⟨n, raw⟩)) rfl ha (placed.trans (grow_of_room hm hq hf))).trans ?_
      rw [List.length_append, length_of_validSteps hv]

theorem take_cons_drop_eq_insertIdx {α : Type} {xs : List α} {p : Nat} (a : α) (hp : p ≤ xs.length) :
    xs.take p ++ a :: xs.drop p = xs.insertIdx p a := by
  induction xs generalizing p with
  | nil => simp_all
  | cons x xs ih =>
    cases p with
    | zero => rfl
    | succ p => simp [ih (Nat.le_of_succ_le_succ hp)]

/-- Settles O34: run state, then step and position, then the pool. -/
theorem progInsertAndReplace : Obligations.ProgInsertAndReplace := by
  intro s h tag n p l raw st hn ha ho x q open_ insert replace
  have insert_of {w : Verdict} (hr : open_) (hw : (match validStep raw with
      | none => refuse .badArgument
      | some st => if x.program.length < q then refuse .badArgument
        else s.grow h l 1 (x.program.take q ++ st :: x.program.drop q)) = w) :
      judgeProgInsert h ⟨n, p, raw⟩ s = w :=
    (onLane_of_lane hn _).trans ((asEditor_of_open ho hr _).trans hw)
  have replace_of {w : Verdict} (hr : open_) (hw : (match validStep raw with
      | none => refuse .badArgument
      | some st => if x.program.length ≤ q then refuse .badArgument
        else edited (s.setProgram l (x.program.set q st)) h l) = w) :
      judgeProgReplace h ⟨n, p, raw⟩ s = w :=
    (onLane_of_lane hn _).trans ((asEditor_of_open ho hr _).trans hw)
  have grown (hr : open_) (hv : validStep raw = some st) (hp : q ≤ x.program.length) :
      judgeProgInsert h ⟨n, p, raw⟩ s = s.grow h l 1 (x.program.insertIdx q st) := by
    refine insert_of hr ?_
    rw [hv, ← take_cons_drop_eq_insertIdx st hp]
    exact if_neg (Nat.not_lt.mpr hp)
  refine ⟨fun hr => ⟨?_, ?_⟩, fun hr hbad => ?_, fun hr hbad => ?_, fun hr hv hp hm => ?_, fun hr hv hp hm hq => ?_,
    fun hr hv hp hm hq hf => ?_, fun hr hv hp hm hq hf => ?_, fun hr hv hp => ?_⟩
  · exact exec_of_refusal rfl ha ((onLane_of_lane hn _).trans (asEditor_of_closed ho hr _))
  · exact exec_of_refusal rfl ha ((onLane_of_lane hn _).trans (asEditor_of_closed ho hr _))
  · refine exec_of_refusal rfl ha (insert_of hr ?_)
    obtain hv | hp := hbad
    · rw [hv]
    · split
      · rfl
      · exact if_pos hp
  · refine exec_of_refusal rfl ha (replace_of hr ?_)
    obtain hv | hp := hbad
    · rw [hv]
    · split
      · rfl
      · exact if_pos hp
  · exact exec_of_refusal rfl ha ((grown hr hv hp).trans (grow_of_full hm))
  · exact exec_of_refusal rfl ha ((grown hr hv hp).trans (grow_of_quota hm hq))
  · exact exec_of_refusal rfl ha ((grown hr hv hp).trans (grow_of_exhausted hm hq (Nat.lt_one_iff.mpr hf)))
  · refine (exec_of_accept (i := .progInsert h tag (.fits ⟨n, p, raw⟩)) rfl ha ((grown hr hv hp).trans (grow_of_room hm hq hf))).trans ?_
    rw [List.length_insertIdx_of_le_length hp]
  · refine exec_of_accept rfl ha (replace_of hr ?_)
    rw [hv]
    refine (if_neg (Nat.not_le.mpr hp)).trans (edited_setProgram.trans ?_)
    rw [List.length_set]

/-- Settles O35: run state, then position, then EMPTY. -/
theorem progRemoveAndClear : Obligations.ProgRemoveAndClear := by
  intro s h tag n p l hn ha ho x q k open_ remove clear
  have remove_of {w : Verdict} (hr : open_) (hw : (if k ≤ q then refuse .badArgument
      else if x.run = .armed ∧ k = 1 then refuse .empty
      else edited ((s.freeSteps h 1).setProgram l (x.program.eraseIdx q)) h l) = w) :
      judgeProgRemove h ⟨n, p⟩ s = w :=
    (onLane_of_lane hn _).trans ((asEditor_of_open ho hr _).trans hw)
  have clear_of {w : Verdict} (hr : open_) (hw : (if x.run = .armed ∧ x.program ≠ [] then refuse .empty
      else edited ((s.freeSteps h k).setProgram l []) h l) = w) :
      judgeProgClear h n s = w :=
    (onLane_of_lane hn _).trans ((asEditor_of_open ho hr _).trans hw)
  have hnil : k = 0 ↔ x.program = [] := List.length_eq_zero_iff
  refine ⟨fun hr => ⟨?_, ?_⟩, fun hr hq => ?_, fun hr hq hk => ?_, fun hr hk => ?_, fun hr hq hk => ?_, fun hr hk => ?_⟩
  · exact exec_of_refusal rfl ha ((onLane_of_lane hn _).trans (asEditor_of_closed ho hr _))
  · exact exec_of_refusal rfl ha ((onLane_of_lane hn _).trans (asEditor_of_closed ho hr _))
  · exact exec_of_refusal rfl ha (remove_of hr (if_pos hq))
  · exact exec_of_refusal rfl ha (remove_of (.inr (.inl hr)) ((if_neg (Nat.not_le.mpr hq)).trans (if_pos ⟨hr, hk⟩)))
  · exact exec_of_refusal rfl ha (clear_of (.inr (.inl hr)) (if_pos ⟨hr, fun e => hk (hnil.mpr e)⟩))
  · refine (exec_of_accept (i := .progRemove h tag (.fits ⟨n, p⟩)) rfl ha (remove_of hr ((if_neg (Nat.not_le.mpr hq)).trans
      ((if_neg fun e => hk.elim (· e.1) (· e.2)).trans edited_freeSteps)))).trans ?_
    rw [List.length_eraseIdx_of_lt hq]
  · exact exec_of_accept rfl ha (clear_of hr
      ((if_neg fun e => hk.elim (· e.1) (fun e' => e.2 (hnil.mp e'))).trans edited_freeSteps))

/-- Only a WRITE and a BROADCAST take a new data list (R17). -/
theorem Step.patched_eq_none {data : List Byte} {st : Step} (h : st.patchable = false) : st.patched data = none := by
  cases st <;> simp_all [Step.patchable, Step.patched]

/-- Settles O36: PROG_PATCH by the step it finds, PROG_READ by its operands and the condition. -/
theorem progPatchAndRead : Obligations.ProgPatchAndRead := by
  intro s h tag n p c l data old seg st idx into hn ha x q patch read
  have patch_of {w : Verdict} (ho : x.owner = some h) (hw : (match x.program[q]?.bind (Step.patched data) with
      | none => refuse .badArgument
      | some st => if dataOk data then accept (s.setProgram l (x.program.set q st)) (.patched q data.length)
        else refuse .badArgument) = w) : judgeProgPatch h ⟨n, p, data⟩ s = w :=
    (onLane_of_lane hn _).trans ((asOwner_of_owner _ ho).trans hw)
  have read_of {w : Verdict} (hw : (if c.toNat < 1 ∨ 4 < c.toNat ∨ 63 < q then refuse .badArgument
      else if x.condition = .free then refuse .laneState
      else accept s (.steps x.program.length q ((x.program.drop q).take c.toNat))) = w) :
      judgeProgRead ⟨n, p, c⟩ s = w := (onLane_of_lane hn _).trans hw
  have replaced {y z : Step} (ho : x.owner = some h) (hy : x.program[q]? = some y) (hz : y.patched data = some z)
      (h1 : 1 ≤ data.length) (h8 : data.length ≤ 8) :
      patch = .next ((s.setLane l { x with program := x.program.set q z }).respond h tag .ok
        (.patched q data.length)) := by
    refine exec_of_accept rfl ha (patch_of ho ?_)
    rw [hy, Option.bind_some, hz]
    exact if_pos (dataOk_iff.mpr ⟨h1, h8⟩)
  refine ⟨fun ho hy => replaced ho hy rfl, fun ho hy => replaced ho hy rfl, fun ho hbad => ?_, fun hbad => ?_,
    fun h1 h4 hq hc => ?_, fun h1 h4 hq hc => ?_⟩
  · refine exec_of_refusal rfl ha (patch_of ho ?_)
    obtain hy | hd := hbad
    · have hnone : x.program[q]?.bind (Step.patched data) = none :=
        Option.bind_eq_none_iff.mpr fun y e => Step.patched_eq_none (hy y e)
      rw [hnone]
    · split
      · rfl
      · exact if_neg fun e => absurd (dataOk_iff.mp e) (by omega)
  · exact exec_of_refusal rfl ha (read_of (if_pos (hbad.imp_left Nat.lt_one_iff.mpr)))
  · exact exec_of_refusal rfl ha (read_of ((if_neg (by simp only [q] at *; omega)).trans (if_pos hc)))
  · exact exec_of_accept rfl ha (read_of ((if_neg (by simp only [q] at *; omega)).trans (if_neg hc)))

end Sys2Proof.Machine
end


section
/-! SUPPORT. The statements about results, events and the callers' direct queues. -/

set_option Elab.async false

namespace Sys2Proof.Machine

/-! ### Results -/

/-- A response that becomes ready where none was unread holds the pin of its reply (R129). -/
theorem State.respond_pin {s : State} {h : HostId} (hn : (s.port h).isReady = false) (tag : Byte) (st : Status) {r : Reply}
    {lb : LaneId × BankId} (hr : r.pins = some lb) : ((s.respond h tag st r).port h).pin = some lb := by
  rw [State.respond_of_not_ready s h tag st r hn, State.port_setPort_self, Port.answered_eq]
  simp [hr]

theorem State.pinned_of_pin {s : State} {h : HostId} {l : LaneId} {b : BankId} (hp : (s.port h).pin = some (l, b)) :
    s.pinned l b = true :=
  List.any_eq_true.mpr ⟨h, by fin_cases h <;> simp [allHosts], by simp [hp]⟩

/-- Settles O37: the checks in their order, then the front bank, pinned by its response. -/
theorem resultRead : Obligations.ResultRead := by
  intro s h tag n f c g l b hn ha x got fits stamp spelled
  have outside : (63 < f.toNat ∨ c.toNat < 1 ∨ 64 < c.toNat ∨ 64 < f.toNat + c.toNat) ↔ ¬ fits := by
    simp only [fits]
    omega
  have read_of {w : Verdict} (hf : fits) (hw : (if x.condition = .free then refuse .laneState
      else match x.front with
        | none => refuse .noData
        | some b => if g = some x.generation then .error (.notNewer, .notNewer x.generation)
          else accept s (.results l b f.toNat c.toNat)) = w) : judgeResultRead ⟨n, f, c, g⟩ s = w :=
    (onLane_of_lane hn _).trans ((if_neg fun e => outside.mp e hf).trans hw)
  have read_front {w : Verdict} (hf : fits) (hc : x.condition ≠ .free) (hb : x.front = some b)
      (hw : (if g = some x.generation then .error (.notNewer, .notNewer x.generation)
          else accept s (.results l b f.toNat c.toNat)) = w) : judgeResultRead ⟨n, f, c, g⟩ s = w := by
    refine read_of hf ((if_neg hc).trans ?_)
    rw [hb]
    exact hw
  have found (hf : fits) (hc : x.condition ≠ .free) (hb : x.front = some b) (hg : g ≠ some x.generation) :
      got = .next (s.respond h tag .ok (.results l b f.toNat c.toNat)) :=
    exec_of_accept rfl ha (read_front hf hc hb (if_neg hg))
  refine ⟨fun hf => ?_, fun hf hc => ?_, fun hf hc hb => ?_, fun hf hc hb hg => ?_, found, fun hf hc hb hg hr => ?_, ?_⟩
  · exact exec_of_refusal rfl ha ((onLane_of_lane hn _).trans (if_pos (outside.mpr hf)))
  · exact exec_of_refusal rfl ha (read_of hf (if_pos hc))
  · refine exec_of_refusal rfl ha (read_of hf ((if_neg hc).trans ?_))
    rw [hb]
  · exact exec_of_error rfl ha (read_front hf hc hb (if_pos hg))
  · have hpin := State.respond_pin hr tag .ok (r := .results l b f.toNat c.toNat) rfl
    exact ⟨_, found hf hc hb hg, hpin, State.pinned_of_pin hpin⟩
  · have hrecord (r : Record) : r.bytes = spelled r := by
      cases ho : r.outcome <;> simp [Record.bytes, spelled, ho, byteOf]
    have hlane : byteOf l.val = n := byteOf_of_toNat hn
    simp only [Reply.bytes, hlane, Bank.slice, funext hrecord]
    simp only [stamp, byteOf, BitVec.ofNat_toNat, BitVec.setWidth_eq]

/-- Settles O38: both requests by the condition. -/
theorem resultWatchAndUnwatch : Obligations.ResultWatchAndUnwatch := by
  intro s h tag n l hn ha x joined left
  refine ⟨fun hc => ⟨?_, ?_⟩, fun hc => ⟨?_, ?_⟩⟩
  · exact exec_of_refusal rfl ha ((onLane_of_lane hn _).trans (if_pos hc))
  · exact exec_of_refusal rfl ha ((onLane_of_lane hn _).trans (if_pos hc))
  · exact exec_of_accept rfl ha ((onLane_of_lane hn _).trans (if_neg hc))
  · exact exec_of_accept rfl ha ((onLane_of_lane hn _).trans (if_neg hc))

/-! ### Events -/

/-- A mask names none but the kinds exactly where bits 0, 14 and 15 are clear (R174). -/
theorem maskOk_iff {m : BitVec 16} :
    maskOk m = true ↔ ¬ (m.getLsbD 0 = true ∨ m.getLsbD 14 = true ∨ m.getLsbD 15 = true) := by
  rw [maskOk, beq_iff_eq]
  constructor
  · intro h
    have bit (i : Nat) : (m.getLsbD i && (0xC001#16).getLsbD i) = false := by
      rw [← BitVec.getLsbD_and, h, BitVec.getLsbD_zero]
    have h0 := bit 0
    have h14 := bit 14
    have h15 := bit 15
    simp_all
  · intro h
    refine BitVec.eq_of_getLsbD_eq fun i hi => ?_
    rw [BitVec.getLsbD_and, BitVec.getLsbD_zero]
    interval_cases i <;> simp_all

/-- Settles O39: the counts, the mask, and the bytes kind by kind. -/
theorem eventFetchAndMask : Obligations.EventFetchAndMask := by
  intro s h tag n e mask ha m k outside one fields
  have mask_of {w : Verdict} (hw : (if maskOk mask = false ∨ 1 < e.toNat then refuse .badArgument
      else accept (s.setMailbox h { m with mask := mask, enable := e == 0x01#8 }) (.mask mask (e == 0x01#8))) = w) :
      judgeEventMask h ⟨mask, e⟩ s = w := hw
  refine ⟨fun hn => ?_, fun h1 h4 => ?_, fun hbad => ?_, fun hin he => ?_, rfl, fun b => ?_⟩
  · exact exec_of_refusal rfl ha (if_pos (hn.imp_left Nat.lt_one_iff.mpr))
  · exact exec_of_accept rfl ha (if_neg (by omega))
  · refine exec_of_refusal rfl ha (mask_of (if_pos (hbad.imp_left fun ho => ?_)))
    by_contra hk
    exact maskOk_iff.mp (by simpa using hk) ho
  · have hone : (e == 0x01#8) = decide (e.toNat = 1) := by
      rw [Bool.eq_iff_iff, beq_iff_eq, decide_eq_true_iff]
      exact ⟨fun h => by simp [h], fun h => BitVec.eq_of_toNat_eq h⟩
    refine exec_of_accept rfl ha (mask_of ((if_neg ?_).trans ?_))
    · rw [maskOk_iff.mpr hin]
      simp only [Bool.true_eq_false, false_or]
      exact Nat.not_lt.mpr he
    · rw [hone]
  · cases b with
    | directDone t o n d => cases d <;> rfl
    | linkFault | linkRecovered | leaseExpired => exact List.append_nil _
    | _ => rfl

theorem State.inReset_eq_false_iff {s : State} {k : HostId} : s.inReset k = false ↔ (s.port k).state ≠ .inReset := by
  rw [State.inReset, beq_eq_false_iff_ne]

/-- A host that subscribes to a lane is sent an event; another is not (R149). -/
def State.tell (l : LaneId) (b : EventBody) (h : HostId) (u : State) : State :=
  if look (u.lane l).subscribers h then u.queueEvent h b else u

section
variable (l : LaneId) (b : EventBody) (h : HostId) (u : State)

theorem State.tell_lane : (State.tell l b h u).lane l = u.lane l := by
  unfold State.tell
  split
  · exact (u.queueEvent_aside h b).lane l
  · rfl

theorem State.tell_inReset (k : HostId) : (State.tell l b h u).inReset k = u.inReset k := by
  unfold State.tell
  split
  · exact u.queueEvent_inReset h k b
  · rfl

theorem State.tell_timestamp : (State.tell l b h u).timestamp = u.timestamp := by
  unfold State.tell
  split
  · exact u.queueEvent_timestamp h b
  · rfl

theorem State.tell_mailbox (k : HostId) : (State.tell l b h u).mailbox k
    = if h = k ∧ look (u.lane l).subscribers k = true ∧ u.inReset k = false
      then (u.mailbox k).record ⟨u.timestamp, b⟩ else u.mailbox k := by
  unfold State.tell
  by_cases hm : h = k
  · subst hm
    by_cases hs : look (u.lane l).subscribers h = true
    · simp [hs, State.queueEvent_mailbox]
    · simp [hs]
  · split
    · simp [State.queueEvent_mailbox, hm]
    · simp [hm]

end

/-- A record sent to each subscriber of a lane (R138, R149). -/
theorem State.queueSubscribers_mailbox (s : State) (l : LaneId) (k : HostId) (b : EventBody) :
    (s.queueSubscribers l b).mailbox k = if look (s.lane l).subscribers k = true ∧ s.inReset k = false
      then (s.mailbox k).record ⟨s.timestamp, b⟩ else s.mailbox k := by
  show (State.tell l b 3 (State.tell l b 2 (State.tell l b 1 (State.tell l b 0 s)))).mailbox k = _
  simp only [State.tell_mailbox, State.tell_lane, State.tell_inReset, State.tell_timestamp]
  fin_cases k <;> simp

/-- Settles O40: mask, room and recipients. -/
theorem eventsJoinTheQueues : Obligations.EventsJoinTheQueues := by
  intro s h k l b m e sent
  have hsent : m.record e = sent := by
    obtain ⟨hm, hrec⟩ | ⟨hm, hq, hrec⟩ | ⟨hm, hq, hrec⟩ := m.record_cases e
    · exact hrec.trans (if_pos hm).symm
    · refine hrec.trans (((if_neg ?_).trans (if_neg (Nat.not_lt.mpr hq))).symm)
      exact ne_of_eq_of_ne hm (by decide)
    · refine hrec.trans (((if_neg ?_).trans (if_pos hq)).symm)
      exact ne_of_eq_of_ne hm (by decide)
  have one (j : HostId) : (s.queueEvent j b).mailbox k = if j = k ∧ (s.port k).state ≠ .inReset then sent else m := by
    rw [State.queueEvent_mailbox, ← hsent]
    by_cases hj : j = k
    · subst hj
      simp only [State.inReset_eq_false_iff, m, e]
    · simp [hj, m]
  refine ⟨one h, ?_, ?_, ?_, fun hr he hm => ?_, fun hq => ?_⟩
  · rw [State.queueAll_mailbox, ← hsent]
    simp only [State.inReset_eq_false_iff, m, e]
  · cases ho : (s.lane l).owner with
    | some j =>
      rw [State.queueOwner_of_owner ho, one j]
      simp only [Option.some.injEq]
    | none =>
      rw [State.queueOwner_of_none ho]
      simp [m]
  · rw [State.queueSubscribers_mailbox, ← hsent]
    simp only [State.inReset_eq_false_iff, m, e]
  · have hin := State.inReset_eq_false_iff.mpr hr
    have hmail : (s.queueEvent k b).mailbox k = m.record e := by
      rw [State.queueEvent_mailbox, if_pos ⟨rfl, hin⟩]
    have hqueue : (m.record e).queue ≠ [] := by
      obtain ⟨hm', -⟩ | ⟨-, hq, hrec⟩ | ⟨-, -, hrec⟩ := m.record_cases e
      · simp [show m.mask.getLsbD e.body.kind = true from hm] at hm'
      · rw [hrec]
        exact List.ne_nil_of_length_pos (Nat.lt_of_lt_of_le (by decide) hq)
      · simp [hrec]
    rw [State.nirqLow, State.queueEvent_inReset, hmail, Mailbox.record_enable, hin, he]
    simpa using hqueue
  · obtain hq | hq | hq := hq
    · simp [State.nirqLow, State.inReset, hq]
    · simp [State.nirqLow, show (s.mailbox k).enable = false from hq]
    · simp [State.nirqLow, show (s.mailbox k).queue = [] from hq]

/-! ### Direct requests -/

/-- The step of a direct request is a checked step without into, and no COPY and no BREAK (R75). -/
theorem directStep_of_checked {r : RawStep} {st : Step} (h : RawStep.checked r = some st) :
    directStep r = if st.into = none ∧ st.segment ≠ none ∧ st.copies = false then some st else none := by
  unfold directStep
  rw [h]
  cases st with
  | read _ _ _ _ into | write _ _ _ _ into | broadcast _ _ _ into => cases into <;> simp [Step.into, Step.segment, Step.copies]
  | copy | brk => simp [Step.segment, Step.copies]

/-- Settles O41: the step, the operands, then room in the queue. -/
theorem directSubmitJoinsTheQueue : Obligations.DirectSubmitJoinsTheQueue := by
  intro s h tag limit interval hostTag raw st ha q got timed
  have outside : (limit.toNat < 1 ∨ 8 < limit.toNat ∨ interval.toNat < 1) ↔ ¬ timed := by
    simp only [timed]
    omega
  have submit_of {w : Verdict} (hst : directStep raw = some st) (ht : timed)
      (hw : (if 4 ≤ q.length then refuse .directFull
        else accept (s.setDirectQueue h (q ++ [⟨st, limit.toNat, interval.toNat, hostTag, 0, false, none⟩]))
          (.queued (q.length + 1))) = w) : judgeDirectSubmit h ⟨limit, interval, hostTag, raw⟩ s = w := by
    unfold judgeDirectSubmit
    rw [hst]
    exact (if_neg fun e => outside.mp e ht).trans hw
  have untaken (hst : directStep raw = none) : got = .next (s.respond h tag .badArgument .nothing) := by
    refine exec_of_refusal rfl ha (?_ : judgeDirectSubmit h ⟨limit, interval, hostTag, raw⟩ s = _)
    unfold judgeDirectSubmit
    rw [hst]
  have taken (hst : RawStep.checked raw = some st) (hi : st.into = none) (hk : st.asks ≠ 0 ∨ st.patchable = true) :
      directStep raw = some st := by
    rw [directStep_of_checked hst, if_pos]
    cases st <;> simp_all [Step.asks, Step.patchable, Step.segment, Step.copies]
  refine ⟨fun ht => ?_, fun hst => untaken ?_, fun hst hk => untaken ?_, fun ht hst hi hk hq => ?_,
    fun ht hst hi hk hq => ?_⟩
  · refine exec_of_refusal rfl ha (?_ : judgeDirectSubmit h ⟨limit, interval, hostTag, raw⟩ s = _)
    unfold judgeDirectSubmit
    split
    · rfl
    · exact if_pos (outside.mpr ht)
  · simp [directStep, hst]
  · rw [directStep_of_checked hst, if_neg]
    cases st <;> simp_all [Step.operation, Step.patchable, Step.segment, Step.copies]
  · exact exec_of_refusal rfl ha (submit_of (taken hst hi hk) ht (if_pos hq))
  · exact exec_of_accept rfl ha (submit_of (taken hst hi hk) ht (if_neg (Nat.not_le.mpr hq)))

end Sys2Proof.Machine
end


section
/-! SUPPORT. Lists of entries that each set one field of a record, and the statements about LANE_CONFIG and
SETTINGS_WRITE. -/

set_option Elab.async false

namespace Sys2Proof.Machine

/-! ### Records set field by field -/

/-- An entry sets the field it names and keeps the others: `agree n c d` says that `c` and `d` hold the same in field `n`,
`holds c e` that field `ident e` of `c` holds what `e` gives. -/
structure SetsFields {C E : Type} (apply : C → E → Option C) (ident : E → Nat) (agree : Nat → C → C → Prop)
    (holds : C → E → Prop) : Prop where
  refl : ∀ n c, agree n c c
  trans : ∀ {n a b c}, agree n a b → agree n b c → agree n a c
  set : ∀ {c c' e}, apply c e = some c' → holds c' e
  keep : ∀ {c c' e n}, apply c e = some c' → n ≠ ident e → agree n c' c
  carry : ∀ {c d e}, agree (ident e) d c → holds c e → holds d e

section
variable {C E : Type} {apply : C → E → Option C}

/-- Entries without a repeat: every field named holds its value, every other is kept. -/
theorem SetsFields.foldl {ident : E → Nat} {agree : Nat → C → C → Prop} {holds : C → E → Prop}
    (hf : SetsFields apply ident agree holds) {es : List E} {c c' : C} (h : es.foldlM apply c = some c')
    (hn : (es.map ident).Nodup) : (∀ e ∈ es, holds c' e) ∧ ∀ n, n ∉ es.map ident → agree n c' c := by
  induction es generalizing c with
  | nil =>
    obtain rfl := Option.some.inj h
    exact ⟨by simp, fun n _ => hf.refl n _⟩
  | cons e rest ih =>
    rw [List.foldlM_cons] at h
    obtain ⟨d, hd, hrest⟩ := Option.bind_eq_some_iff.mp h
    rw [List.map_cons, List.nodup_cons] at hn
    obtain ⟨hall, hkeep⟩ := ih hrest hn.2
    refine ⟨fun x hx => ?_, fun n hmem => ?_⟩
    · obtain rfl | hx := List.mem_cons.mp hx
      · exact hf.carry (hkeep _ hn.1) (hf.set hd)
      · exact hall x hx
    · rw [List.map_cons, List.mem_cons, not_or] at hmem
      exact hf.trans (hkeep n hmem.2) (hf.keep hd hmem.1)

/-- Entries are applied exactly where each is in range. -/
theorem exists_foldlM_iff {inRange : E → Prop} (hr : ∀ c e, (∃ c', apply c e = some c') ↔ inRange e) {es : List E} (c : C) :
    (∃ c', es.foldlM apply c = some c') ↔ ∀ e ∈ es, inRange e := by
  induction es generalizing c with
  | nil => exact iff_of_true ⟨c, rfl⟩ (by simp)
  | cons e rest ih =>
    rw [List.foldlM_cons, List.forall_mem_cons, ← hr c e]
    constructor
    · rintro ⟨c', h⟩
      obtain ⟨d, hd, hrest⟩ := Option.bind_eq_some_iff.mp h
      exact ⟨⟨d, hd⟩, (ih d).mp ⟨c', hrest⟩⟩
    · rintro ⟨⟨d, hd⟩, hrest⟩
      obtain ⟨c', h⟩ := (ih d).mpr hrest
      exact ⟨c', Option.bind_eq_some_iff.mpr ⟨d, hd, h⟩⟩

end

/-! ### LANE_CONFIG -/

/-- Two configurations hold the same in the field of an identifier (R31). -/
def LaneConfig.Agree (n : Nat) (c d : LaneConfig) : Prop :=
  match n with
  | 1 => c.priority = d.priority
  | 2 => c.source = d.source
  | 3 => c.mode = d.mode
  | 4 => c.resume = d.resume
  | 5 => c.onError = d.onError
  | 6 => c.limit = d.limit
  | 7 => c.interval = d.interval
  | _ => True

/-- A configuration holds what an entry gives. -/
def RawConfig.HeldBy (c : LaneConfig) : RawConfig → Prop
  | .priority v => v.toNat = c.priority.val
  | .source kind detail => sourceOf kind detail = some c.source
  | .mode v => v = c.mode.code
  | .resume v => v = c.resume.code
  | .onError v => v = c.onError.code
  | .limit v => c.limit = v.toNat
  | .interval v => c.interval = v.toNat

/-- An entry is in its range (R31, R174). -/
def RawConfig.InRange : RawConfig → Prop
  | .priority v => v.toNat ≤ 3
  | .mode v | .resume v | .onError v => v.toNat ≤ 1
  | .limit v => 1 ≤ v.toNat ∧ v.toNat ≤ 8
  | .interval v => 1 ≤ v.toNat
  | .source k d =>
    (k = 0x00#8 ∧ d = 0x00#8)
      ∨ (k = 0x01#8 ∧ d.toNat / 16 ≤ 3 ∧ d.toNat % 16 = 0)
      ∨ (k = 0x02#8 ∧ d.toNat / 16 ≤ 3 ∧ 1 ≤ d.toNat % 16 ∧ d.toNat % 16 ≤ 3)
      ∨ (k = 0x03#8 ∧ d.toNat / 16 ≤ 7 ∧ d.toNat % 16 = 0)

/-- A byte of two values (R174). -/
theorem byte_cases {v : Byte} (h : v.toNat ≤ 1) : v = 0x00#8 ∨ v = 0x01#8 := by
  obtain h | h : v.toNat = 0 ∨ v.toNat = 1 := by omega
  · exact .inl (BitVec.eq_of_toNat_eq h)
  · exact .inr (BitVec.eq_of_toNat_eq h)

/-- What the bytes of a source say (R31, R174). -/
def TriggerSource.Spelled (k d : Byte) : TriggerSource → Prop
  | .soft => k = 0x00#8 ∧ d = 0x00#8
  | .timer t => k = 0x01#8 ∧ d.toNat / 16 = t.val ∧ d.toNat % 16 = 0
  | .edge t e => k = 0x02#8 ∧ d.toNat / 16 = t.val ∧ d.toNat % 16 = e.code
  | .chain y => k = 0x03#8 ∧ d.toNat / 16 = y.val ∧ d.toNat % 16 = 0

theorem spelled_of_sourceOf {k d : Byte} {x : TriggerSource} (h : sourceOf k d = some x) : x.Spelled k d := by
  have kind {n : Nat} {b : Byte} (hk : k.toNat = n) (hb : b.toNat = n := by rfl) : k = b :=
    BitVec.eq_of_toNat_eq (hk.trans hb.symm)
  unfold sourceOf at h
  dsimp only at h
  split at h
  next hk =>
    rw [Option.ite_none_right_eq_some] at h
    obtain ⟨hd, hx⟩ := h
    obtain rfl := Option.some.inj hx
    exact ⟨kind hk, hd⟩
  next hk =>
    simp only [Option.dite_none_right_eq_some, Option.ite_none_right_eq_some] at h
    obtain ⟨hlt, hmod, hx⟩ := h
    obtain rfl := Option.some.inj hx
    exact ⟨kind hk, rfl, hmod⟩
  next hk =>
    rw [Option.dite_none_right_eq_some] at h
    obtain ⟨hlt, h⟩ := h
    split at h
    next hm => obtain rfl := Option.some.inj h; exact ⟨kind hk, rfl, hm⟩
    next hm => obtain rfl := Option.some.inj h; exact ⟨kind hk, rfl, hm⟩
    next hm => obtain rfl := Option.some.inj h; exact ⟨kind hk, rfl, hm⟩
    · simp at h
  next hk =>
    simp only [Option.dite_none_right_eq_some, Option.ite_none_right_eq_some] at h
    obtain ⟨hlt, hmod, hx⟩ := h
    obtain rfl := Option.some.inj hx
    exact ⟨kind hk, rfl, hmod⟩
  · simp at h

theorem sourceOf_of_spelled {k d : Byte} {x : TriggerSource} (h : x.Spelled k d) : sourceOf k d = some x := by
  cases x with
  | soft =>
    obtain ⟨rfl, rfl⟩ := h
    rfl
  | timer t =>
    obtain ⟨rfl, hdiv, hmod⟩ := h
    simp [sourceOf, hdiv, hmod]
  | edge t e =>
    obtain ⟨rfl, hdiv, hmod⟩ := h
    cases e <;> simp [sourceOf, hdiv, hmod, EdgeKind.code]
  | chain y =>
    obtain ⟨rfl, hdiv, hmod⟩ := h
    simp [sourceOf, hdiv, hmod]

/-- A source is read exactly in its ranges (R31). -/
theorem exists_sourceOf_iff {k d : Byte} : (∃ x, sourceOf k d = some x) ↔ RawConfig.InRange (.source k d) := by
  constructor
  · rintro ⟨x, h⟩
    have hx := spelled_of_sourceOf h
    cases x with
    | soft => exact .inl hx
    | timer t =>
      obtain ⟨hk, hdiv, hmod⟩ := hx
      exact .inr (.inl ⟨hk, by omega, hmod⟩)
    | edge t e =>
      obtain ⟨hk, hdiv, hmod⟩ := hx
      have he : 1 ≤ e.code ∧ e.code ≤ 3 := by cases e <;> decide
      exact .inr (.inr (.inl ⟨hk, by omega, by omega, by omega⟩))
    | chain y =>
      obtain ⟨hk, hdiv, hmod⟩ := hx
      exact .inr (.inr (.inr ⟨hk, by omega, hmod⟩))
  · rintro (h | ⟨hk, hdiv, hmod⟩ | ⟨hk, hdiv, h1, h3⟩ | ⟨hk, hdiv, hmod⟩)
    · exact ⟨.soft, sourceOf_of_spelled h⟩
    · exact ⟨.timer ⟨_, by omega⟩, sourceOf_of_spelled ⟨hk, rfl, hmod⟩⟩
    · obtain he | he | he : d.toNat % 16 = 1 ∨ d.toNat % 16 = 2 ∨ d.toNat % 16 = 3 := by omega
      · exact ⟨.edge ⟨_, by omega⟩ .rising, sourceOf_of_spelled ⟨hk, rfl, he⟩⟩
      · exact ⟨.edge ⟨_, by omega⟩ .falling, sourceOf_of_spelled ⟨hk, rfl, he⟩⟩
      · exact ⟨.edge ⟨_, by omega⟩ .both, sourceOf_of_spelled ⟨hk, rfl, he⟩⟩
    · exact ⟨.chain ⟨_, by omega⟩, sourceOf_of_spelled ⟨hk, rfl, hmod⟩⟩

/-- What an entry that is applied can be and do. -/
theorem RawConfig.of_apply {c c' : LaneConfig} {e : RawConfig} (h : RawConfig.apply c e = some c') :
    RawConfig.InRange e ∧ RawConfig.HeldBy c' e ∧ ∀ n, n ≠ RawConfig.ident e → LaneConfig.Agree n c' c := by
  cases e with
  | priority v =>
    obtain ⟨p, hp, rfl⟩ := Option.map_eq_some_iff.mp h
    have hv := small_eq_some_iff.mp hp
    refine ⟨show v.toNat ≤ 3 by omega, hv, fun n hn => ?_⟩
    unfold LaneConfig.Agree
    split <;> simp_all [RawConfig.ident]
  | source kind detail =>
    obtain ⟨p, hp, rfl⟩ := Option.map_eq_some_iff.mp h
    refine ⟨exists_sourceOf_iff.mp ⟨p, hp⟩, hp, fun n hn => ?_⟩
    unfold LaneConfig.Agree
    split <;> simp_all [RawConfig.ident]
  | limit v | interval v =>
    simp only [RawConfig.apply, Option.ite_none_right_eq_some] at h
    obtain ⟨hv, h⟩ := h
    obtain rfl := Option.some.inj h
    refine ⟨hv, rfl, fun n hn => ?_⟩
    unfold LaneConfig.Agree
    split <;> simp_all [RawConfig.ident]
  | mode v | resume v | onError v =>
    simp only [RawConfig.apply] at h
    split at h
    next hv =>
      obtain rfl := Option.some.inj h
      refine ⟨hv.trans_le (by decide), BitVec.eq_of_toNat_eq hv, fun n hn => ?_⟩
      unfold LaneConfig.Agree
      split <;> simp_all [RawConfig.ident]
    next hv =>
      obtain rfl := Option.some.inj h
      refine ⟨hv.le, BitVec.eq_of_toNat_eq hv, fun n hn => ?_⟩
      unfold LaneConfig.Agree
      split <;> simp_all [RawConfig.ident]
    · simp at h

theorem RawConfig.exists_apply_iff (c : LaneConfig) (e : RawConfig) :
    (∃ c', RawConfig.apply c e = some c') ↔ RawConfig.InRange e := by
  refine ⟨fun ⟨c', h⟩ => (RawConfig.of_apply h).1, fun h => ?_⟩
  cases e with
  | priority v => exact ⟨_, Option.map_eq_some_iff.mpr ⟨⟨v.toNat, Nat.lt_succ_of_le h⟩, small_eq_some rfl, rfl⟩⟩
  | source kind detail =>
    obtain ⟨x, hx⟩ := exists_sourceOf_iff.mpr h
    exact ⟨_, Option.map_eq_some_iff.mpr ⟨x, hx, rfl⟩⟩
  | limit v | interval v => exact ⟨_, if_pos h⟩
  | mode v | resume v | onError v => obtain rfl | rfl := byte_cases h <;> exact ⟨_, rfl⟩

theorem RawConfig.setsFields : SetsFields RawConfig.apply RawConfig.ident LaneConfig.Agree RawConfig.HeldBy where
  refl n c := by unfold LaneConfig.Agree; split <;> trivial
  trans := by
    intro n a b c h h'
    unfold LaneConfig.Agree at *
    split <;> simp_all
  set h := (RawConfig.of_apply h).2.1
  keep h hn := (RawConfig.of_apply h).2.2 _ hn
  carry := by
    intro c d e h hold
    cases e <;> simp_all [LaneConfig.Agree, RawConfig.HeldBy, RawConfig.ident]

theorem applyConfig_eq (c : LaneConfig) (es : List RawConfig) : applyConfig c es = es.foldlM RawConfig.apply c := by
  induction es generalizing c with
  | nil => rfl
  | cons e rest ih =>
    rw [applyConfig, List.foldlM_cons]
    cases RawConfig.apply c e with
    | none => rfl
    | some d => exact ih d

theorem exists_newConfig_iff (c : LaneConfig) (es : List RawConfig) : (∃ c', newConfig c es = some c') ↔
    (es.map RawConfig.ident).Nodup ∧ ∀ e ∈ es, RawConfig.InRange e := by
  rw [← exists_foldlM_iff RawConfig.exists_apply_iff c, ← applyConfig_eq]
  unfold newConfig
  split
  next h => simp [h]
  next h => simp [h]

/-- What LANE_CONFIG makes of a configuration (R31). -/
theorem of_newConfig {c c' : LaneConfig} {es : List RawConfig} (h : newConfig c es = some c') :
    (∀ e ∈ es, RawConfig.HeldBy c' e) ∧ ∀ n, n ∉ es.map RawConfig.ident → LaneConfig.Agree n c' c := by
  have hn := ((exists_newConfig_iff c es).mp ⟨c', h⟩).1
  refine RawConfig.setsFields.foldl ?_ hn
  rw [← applyConfig_eq]
  exact (if_pos hn).symm.trans h

section
variable {x : TriggerSource} {d : Byte}

theorem spelled_soft (h : x.Spelled 0 d) : x = .soft := by
  cases x with
  | soft => rfl
  | _ => exact absurd h.1 (by decide)

theorem spelled_timer {t : Fin 4} (h : x.Spelled 1 d) (ht : d.toNat / 16 = t.val) : x = .timer t := by
  cases x with
  | timer u => exact congrArg _ (Fin.ext (h.2.1.symm.trans ht))
  | _ => exact absurd h.1 (by decide)

theorem spelled_edge {t : Fin 4} {k : EdgeKind} (h : x.Spelled 2 d) (ht : d.toNat / 16 = t.val)
    (hk : d.toNat % 16 = k.code) : x = .edge t k := by
  cases x with
  | edge u j =>
    obtain ⟨-, hu, hj⟩ := h
    obtain rfl : u = t := Fin.ext (hu.symm.trans ht)
    rw [hk] at hj
    cases j <;> cases k <;> simp_all [EdgeKind.code]
  | _ => exact absurd h.1 (by decide)

theorem spelled_chain {y : LaneId} (h : x.Spelled 3 d) (hy : d.toNat / 16 = y.val) : x = .chain y := by
  cases x with
  | chain u => exact congrArg _ (Fin.ext (h.2.1.symm.trans hy))
  | _ => exact absurd h.1 (by decide)

end

/-! The form of the one entry with an identifier. -/

section
variable {e : RawConfig}

theorem RawConfig.form_priority : RawConfig.ident e = 1 → ∃ v, e = .priority v := by
  cases e <;> simp [RawConfig.ident]

theorem RawConfig.form_source : RawConfig.ident e = 2 → ∃ p : Byte × Byte, e = .source p.1 p.2 := by
  cases e <;> simp [RawConfig.ident]

theorem RawConfig.form_mode : RawConfig.ident e = 3 → ∃ v, e = .mode v := by
  cases e <;> simp [RawConfig.ident]

theorem RawConfig.form_resume : RawConfig.ident e = 4 → ∃ v, e = .resume v := by
  cases e <;> simp [RawConfig.ident]

theorem RawConfig.form_onError : RawConfig.ident e = 5 → ∃ v, e = .onError v := by
  cases e <;> simp [RawConfig.ident]

theorem RawConfig.form_limit : RawConfig.ident e = 6 → ∃ v, e = .limit v := by
  cases e <;> simp [RawConfig.ident]

theorem RawConfig.form_interval : RawConfig.ident e = 7 → ∃ v, e = .interval v := by
  cases e <;> simp [RawConfig.ident]

end

theorem Mode.code_injective : Function.Injective Mode.code := by
  intro a b h
  cases a <;> cases b <;> simp_all [Mode.code]

theorem ResumePolicy.code_injective : Function.Injective ResumePolicy.code := by
  intro a b h
  cases a <;> cases b <;> simp_all [ResumePolicy.code]

theorem ErrorPolicy.code_injective : Function.Injective ErrorPolicy.code := by
  intro a b h
  cases a <;> cases b <;> simp_all [ErrorPolicy.code]

/-- An identifier whose one form of entry does not stand in a list is none of the list's identifiers. -/
theorem not_mem_idents {E α : Type} {ident : E → Nat} {mk : α → E} {i : Nat} {es : List E}
    (hmk : ∀ {e}, ident e = i → ∃ v, e = mk v) (h : ∀ v, mk v ∉ es) : i ∉ es.map ident := by
  intro hm
  obtain ⟨e, he, hi⟩ := List.mem_map.mp hm
  obtain ⟨v, rfl⟩ := hmk hi
  exact h v he

/-- The bytes of a source (R173). -/
theorem TriggerSource.bytes_spelled (x : TriggerSource) : ∃ a b : Byte, x.bytes = [a, b]
    ∧ (x = .soft → a = 0 ∧ b = 0) ∧ (∀ t, x = .timer t → a = 1 ∧ b.toNat = 16 * t.val)
    ∧ (∀ t, x = .edge t .rising → a = 2 ∧ b.toNat = 16 * t.val + 1)
    ∧ (∀ t, x = .edge t .falling → a = 2 ∧ b.toNat = 16 * t.val + 2)
    ∧ (∀ t, x = .edge t .both → a = 2 ∧ b.toNat = 16 * t.val + 3)
    ∧ ∀ y, x = .chain y → a = 3 ∧ b.toNat = 16 * y.val := by
  cases x with
  | soft => exact ⟨0, 0, rfl, by simp⟩
  | timer t =>
    have hb : (byteOf (16 * t.val)).toNat = 16 * t.val := byteOf_toNat (by omega)
    exact ⟨_, _, rfl, by simp [hb]⟩
  | edge t e =>
    have hb : (byteOf (16 * t.val + e.code)).toNat = 16 * t.val + e.code :=
      byteOf_toNat (by cases e <;> simp only [EdgeKind.code] <;> omega)
    refine ⟨_, _, rfl, ?_⟩
    rw [hb]
    cases e <;> simp [EdgeKind.code]
  | chain y =>
    have hb : (byteOf (16 * y.val)).toNat = 16 * y.val := byteOf_toNat (by omega)
    exact ⟨_, _, rfl, by simp [hb]⟩

/-- Settles O27: the entries, the owner, the run state, then field by field. -/
theorem laneConfigSetsItsFields : Obligations.LaneConfigSetsItsFields := by
  intro s h tag n l es hn ha x got inRange good sets
  have hgood : (∃ c, newConfig x.config es = some c) ↔ good := exists_newConfig_iff _ _
  have config_of {c : LaneConfig} {w : Verdict} (hc : newConfig x.config es = some c) (hw : asOwner s h l (match x.run with
      | .idle | .halted => accept (s.setLane l { x with config := c }) (.config c)
      | _ => refuse .laneState) = w) : judgeLaneConfig h ⟨n, es⟩ s = w := by
    refine (onLane_of_lane hn _).trans ?_
    simp only [show newConfig (s.lane l).config es = some c from hc]
    exact hw
  refine ⟨fun hg => ?_, fun hg ho => ?_, fun hg ho hi hh => ?_, fun hg ho hr => ?_, fun c => ?_⟩
  · refine exec_of_refusal rfl ha (?_ : judgeLaneConfig h ⟨n, es⟩ s = _)
    refine (onLane_of_lane hn _).trans ?_
    have hnone : newConfig (s.lane l).config es = none :=
      Option.eq_none_iff_forall_ne_some.mpr fun c hc => hg (hgood.mp ⟨c, hc⟩)
    simp only [hnone]
  · obtain ⟨c, hc⟩ := hgood.mpr hg
    exact exec_of_refusal rfl ha (config_of hc (asOwner_of_stranger _ ho))
  · obtain ⟨c, hc⟩ := hgood.mpr hg
    refine exec_of_refusal rfl ha (config_of hc ((asOwner_of_owner _ ho).trans ?_))
    split
    next e => exact absurd e hi
    next e => exact absurd e hh
    · rfl
  · obtain ⟨c, hc⟩ := hgood.mpr hg
    refine ⟨c, ?_, exec_of_accept rfl ha (config_of hc ((asOwner_of_owner _ ho).trans ?_))⟩
    · obtain ⟨hset, hkeep⟩ := of_newConfig hc
      have kept {α : Type} {mk : α → RawConfig} (i : Nat) (habs : ∀ v, mk v ∉ es)
          (hmk : ∀ {e}, RawConfig.ident e = i → ∃ v, e = mk v) : LaneConfig.Agree i c x.config :=
        hkeep i (not_mem_idents hmk habs)
      have source {k d : Byte} (hd : .source k d ∈ es) : c.source.Spelled k d := spelled_of_sourceOf (hset (.source k d) hd)
      refine ⟨fun v hv => (hset _ hv).symm, fun hv => kept 1 hv RawConfig.form_priority,
        fun hv => (@Mode.code_injective .single _ (hset _ hv)).symm,
        fun hv => (@Mode.code_injective .continuous _ (hset _ hv)).symm, fun hv => kept 3 hv RawConfig.form_mode,
        fun hv => (@ResumePolicy.code_injective .continue _ (hset _ hv)).symm,
        fun hv => (@ResumePolicy.code_injective .restart _ (hset _ hv)).symm, fun hv => kept 4 hv RawConfig.form_resume,
        fun hv => (@ErrorPolicy.code_injective .skip _ (hset _ hv)).symm,
        fun hv => (@ErrorPolicy.code_injective .halt _ (hset _ hv)).symm, fun hv => kept 5 hv RawConfig.form_onError,
        fun v hv => hset _ hv, fun hv => kept 6 hv RawConfig.form_limit, fun v hv => hset _ hv,
        fun hv => kept 7 hv RawConfig.form_interval, fun d hd => spelled_soft (source hd),
        fun d t hd ht => spelled_timer (source hd) ht,
        fun d t hd ht => ⟨spelled_edge (k := .rising) (source hd) ht, spelled_edge (k := .falling) (source hd) ht,
          spelled_edge (k := .both) (source hd) ht⟩,
        fun d y hd hy => spelled_chain (source hd) hy,
        fun hv => kept (mk := fun p : Byte × Byte => .source p.1 p.2) 2 (fun p => hv p.1 p.2) RawConfig.form_source⟩
    · obtain hr | hr := hr <;> rw [hr]
  · obtain ⟨a, b, hab, hspelled⟩ := c.source.bytes_spelled
    refine ⟨a, b, ?_, hspelled⟩
    show LaneConfig.bytes c = _
    rw [LaneConfig.bytes, hab]
    cases c.mode <;> cases c.resume <;> cases c.onError <;> rfl

/-! ### SETTINGS_WRITE -/

/-- Two settings records hold the same in the field of an identifier (R154). -/
def Settings.Agree (n : Nat) (c d : Settings) : Prop :=
  match n with
  | 1 => c.lineRate = d.lineRate
  | 2 => c.replyTimeout = d.replyTimeout
  | 3 => c.segmentGuard = d.segmentGuard
  | 4 => c.silentThreshold = d.silentThreshold
  | 5 => c.probeInterval = d.probeInterval
  | i => ∀ k : HostId, i = 6 + k.val → look c.quota k = look d.quota k

/-- A settings record holds what an entry gives. -/
def RawSetting.HeldBy (c : Settings) : RawSetting → Prop
  | .lineRate v => v = c.lineRate.code
  | .replyTimeout v => c.replyTimeout = v.toNat
  | .segmentGuard v => c.segmentGuard = v.toNat
  | .silentThreshold v => c.silentThreshold = v.toNat
  | .probeInterval v => c.probeInterval = v.toNat
  | .quota k w => look c.quota k = w.toNat

/-- An entry is in its range (R154, R155). -/
def RawSetting.InRange : RawSetting → Prop
  | .lineRate v => v.toNat ≤ 3
  | .replyTimeout v => 2 ≤ v.toNat ∧ v.toNat ≤ 50
  | .segmentGuard v => 1 ≤ v.toNat ∧ v.toNat ≤ 100
  | .silentThreshold v => 1 ≤ v.toNat ∧ v.toNat ≤ 15
  | .probeInterval v => 1 ≤ v.toNat
  | .quota _ w => w.toNat ≤ 256

/-- What an entry that is applied can be and do. -/
theorem RawSetting.of_apply {c c' : Settings} {e : RawSetting} (h : RawSetting.apply c e = some c') :
    RawSetting.InRange e ∧ RawSetting.HeldBy c' e ∧ ∀ n, n ≠ RawSetting.ident e → Settings.Agree n c' c := by
  cases e with
  | lineRate v =>
    simp only [RawSetting.apply] at h
    have others {r : LineRate} : ∀ n, n ≠ 1 → Settings.Agree n { c with lineRate := r } c := by
      intro n hn
      unfold Settings.Agree
      split <;> simp_all
    split at h
    next hv => obtain rfl := Option.some.inj h; exact ⟨hv.trans_le (by decide), BitVec.eq_of_toNat_eq hv, others⟩
    next hv => obtain rfl := Option.some.inj h; exact ⟨hv.trans_le (by decide), BitVec.eq_of_toNat_eq hv, others⟩
    next hv => obtain rfl := Option.some.inj h; exact ⟨hv.trans_le (by decide), BitVec.eq_of_toNat_eq hv, others⟩
    next hv => obtain rfl := Option.some.inj h; exact ⟨hv.trans_le (by decide), BitVec.eq_of_toNat_eq hv, others⟩
    · simp at h
  | replyTimeout v | segmentGuard v | silentThreshold v | probeInterval v =>
    simp only [RawSetting.apply, Option.ite_none_right_eq_some] at h
    obtain ⟨hv, h⟩ := h
    obtain rfl := Option.some.inj h
    refine ⟨hv, rfl, fun n hn => ?_⟩
    unfold Settings.Agree
    split <;> simp_all [RawSetting.ident]
  | quota k w =>
    simp only [RawSetting.apply, Option.ite_none_right_eq_some] at h
    obtain ⟨hv, h⟩ := h
    obtain rfl := Option.some.inj h
    refine ⟨hv, look_put_self _ _ _, fun n hn => ?_⟩
    unfold Settings.Agree
    split <;> try rfl
    intro j hj
    exact look_put_ne _ _ fun e => hn (by rw [hj, e]; rfl)

theorem RawSetting.exists_apply_iff (c : Settings) (e : RawSetting) :
    (∃ c', RawSetting.apply c e = some c') ↔ RawSetting.InRange e := by
  refine ⟨fun ⟨c', h⟩ => (RawSetting.of_apply h).1, fun h => ?_⟩
  cases e with
  | lineRate v =>
    have h : v.toNat ≤ 3 := h
    obtain h | h | h | h : v.toNat = 0 ∨ v.toNat = 1 ∨ v.toNat = 2 ∨ v.toNat = 3 := by omega
    all_goals
      simp only [RawSetting.apply, h]
      exact ⟨_, rfl⟩
  | replyTimeout v | segmentGuard v | silentThreshold v | probeInterval v | quota k v => exact ⟨_, if_pos h⟩

theorem RawSetting.setsFields : SetsFields RawSetting.apply RawSetting.ident Settings.Agree RawSetting.HeldBy where
  refl n c := by unfold Settings.Agree; split <;> simp
  trans := by
    intro n a b c h h'
    unfold Settings.Agree at *
    split <;> simp_all
  set h := (RawSetting.of_apply h).2.1
  keep h hn := (RawSetting.of_apply h).2.2 _ hn
  carry := by
    intro c d e h hold
    cases e with
    | quota k w =>
      have hk : look d.quota k = look c.quota k := by
        have : ∀ j : HostId, 6 + k.val = 6 + j.val → look d.quota j = look c.quota j := by
          fin_cases k <;> exact h
        exact this k rfl
      exact hk.trans hold
    | _ => simp_all [Settings.Agree, RawSetting.HeldBy, RawSetting.ident]

theorem applySettings_eq (c : Settings) (es : List RawSetting) : applySettings c es = es.foldlM RawSetting.apply c := by
  induction es generalizing c with
  | nil => rfl
  | cons e rest ih =>
    rw [applySettings, List.foldlM_cons]
    cases RawSetting.apply c e with
    | none => rfl
    | some d => exact ih d

theorem exists_newSettings_iff (c : Settings) (es : List RawSetting) : (∃ c', newSettings c es = some c') ↔
    (es.map RawSetting.ident).Nodup ∧ ∀ e ∈ es, RawSetting.InRange e := by
  rw [← exists_foldlM_iff RawSetting.exists_apply_iff c, ← applySettings_eq]
  unfold newSettings
  split
  next h => simp [h]
  next h => simp [h]

/-- What SETTINGS_WRITE makes of the record (R155). -/
theorem of_newSettings {c c' : Settings} {es : List RawSetting} (h : newSettings c es = some c') :
    (∀ e ∈ es, RawSetting.HeldBy c' e) ∧ ∀ n, n ∉ es.map RawSetting.ident → Settings.Agree n c' c := by
  have hn := ((exists_newSettings_iff c es).mp ⟨c', h⟩).1
  refine RawSetting.setsFields.foldl ?_ hn
  rw [← applySettings_eq]
  exact (if_pos hn).symm.trans h

theorem LineRate.code_injective : Function.Injective LineRate.code := by
  intro a b h
  cases a <;> cases b <;> simp_all [LineRate.code]

section
variable {e : RawSetting}

theorem RawSetting.form_lineRate : RawSetting.ident e = 1 → ∃ v, e = .lineRate v := by
  cases e <;> simp [RawSetting.ident]
  omega

theorem RawSetting.form_replyTimeout : RawSetting.ident e = 2 → ∃ v, e = .replyTimeout v := by
  cases e <;> simp [RawSetting.ident]
  omega

theorem RawSetting.form_segmentGuard : RawSetting.ident e = 3 → ∃ v, e = .segmentGuard v := by
  cases e <;> simp [RawSetting.ident]
  omega

theorem RawSetting.form_silentThreshold : RawSetting.ident e = 4 → ∃ v, e = .silentThreshold v := by
  cases e <;> simp [RawSetting.ident]
  omega

theorem RawSetting.form_probeInterval : RawSetting.ident e = 5 → ∃ v, e = .probeInterval v := by
  cases e <;> simp [RawSetting.ident]
  omega

theorem RawSetting.form_quota {k : HostId} : RawSetting.ident e = 6 + k.val → ∃ w, e = .quota k w := by
  cases e <;> simp [RawSetting.ident, Fin.ext_iff] <;> omega

end

theorem sameLinkFields_iff {a b : Settings} : sameLinkFields a b = true ↔ a.lineRate = b.lineRate
    ∧ a.replyTimeout = b.replyTimeout ∧ a.segmentGuard = b.segmentGuard ∧ a.silentThreshold = b.silentThreshold := by
  simp [sameLinkFields, and_assoc]

/-- The quotas named with a value below a usage (R155). -/
theorem any_belowUsage_iff {es : List RawSetting} {s : State} : es.any (RawSetting.belowUsage s.usage) = true
    ↔ ∃ k w, .quota k w ∈ es ∧ w.toNat < s.usageOf k := by
  rw [List.any_eq_true]
  constructor
  · rintro ⟨e, he, hb⟩
    cases e with
    | quota k w => exact ⟨k, w, he, by simpa [RawSetting.belowUsage, State.usageOf] using hb⟩
    | _ => simp [RawSetting.belowUsage] at hb
  · rintro ⟨k, w, he, hw⟩
    exact ⟨_, he, by simpa [RawSetting.belowUsage, State.usageOf] using hw⟩

theorem any_namesProbe_iff {es : List RawSetting} :
    es.any RawSetting.namesProbe = true ↔ ∃ v, .probeInterval v ∈ es := by
  rw [List.any_eq_true]
  constructor
  · rintro ⟨e, he, hb⟩
    cases e with
    | probeInterval v => exact ⟨v, he⟩
    | _ => simp [RawSetting.namesProbe] at hb
  · rintro ⟨v, he⟩
    exact ⟨_, he, rfl⟩

/-- Settles O43: the entries, the lease, the link fields, the quotas, then field by field. -/
theorem settingsWriteSetsItsFields : Obligations.SettingsWriteSetsItsFields := by
  intro s h tag es ha got old inRange good linkKept below sets restarts
  have hgood : (∃ c, newSettings old es = some c) ↔ good := exists_newSettings_iff _ _
  have write_of {r : Settings} {w : Verdict} (hr : newSettings old es = some r) (hw : asHolder s h (
      if sameLinkFields r s.settings = false ∧ s.link ≠ .off then refuse .linkActive
      else if es.any (RawSetting.belowUsage s.usage) then refuse .quota
      else accept (s.writeSettings es r) (.settings r)) = w) : judgeSettingsWrite h es s = w := by
    unfold judgeSettingsWrite
    rw [show newSettings s.settings es = some r from hr]
    exact hw
  have kept {r : Settings} (hr : newSettings old es = some r) {α : Type} {mk : α → RawSetting} (i : Nat)
      (hmk : ∀ {e}, RawSetting.ident e = i → ∃ v, e = mk v) (habs : ∀ v, mk v ∉ es) : Settings.Agree i r old :=
    (of_newSettings hr).2 i (not_mem_idents hmk habs)
  have hlink {r : Settings} (hr : newSettings old es = some r) : sameLinkFields r old = true ↔ linkKept := by
    obtain ⟨hset, hkeep⟩ := of_newSettings hr
    rw [sameLinkFields_iff]
    constructor
    · rintro ⟨hrate, htime, hguard, hsilent⟩ e he
      have hheld := hset e he
      cases e with
      | lineRate v => exact hheld.trans (congrArg _ hrate)
      | replyTimeout v => exact hheld.symm.trans htime
      | segmentGuard v => exact hheld.symm.trans hguard
      | silentThreshold v => exact hheld.symm.trans hsilent
      | probeInterval v | quota k w => trivial
    · intro hk
      have field {α β : Type} {mk : α → RawSetting} {f : Settings → β} (hin : ∀ v, mk v ∈ es → f r = f old)
          (hout : (∀ v, mk v ∉ es) → f r = f old) : f r = f old := by
        by_cases hv : ∃ v, mk v ∈ es
        · exact hv.elim hin
        · exact hout fun v he => hv ⟨v, he⟩
      refine ⟨field (fun v he => ?_) (kept hr 1 RawSetting.form_lineRate),
        field (fun v he => ?_) (kept hr 2 RawSetting.form_replyTimeout),
        field (fun v he => ?_) (kept hr 3 RawSetting.form_segmentGuard),
        field (fun v he => ?_) (kept hr 4 RawSetting.form_silentThreshold)⟩
      · exact LineRate.code_injective ((hset _ he).symm.trans (hk _ he))
      · exact (hset _ he).trans (hk _ he)
      · exact (hset _ he).trans (hk _ he)
      · exact (hset _ he).trans (hk _ he)
  have open_ {r : Settings} (hr : newSettings old es = some r) (hk : linkKept ∨ s.link = .off) :
      ¬ (sameLinkFields r s.settings = false ∧ s.link ≠ .off) := by
    rintro ⟨e, hoff⟩
    obtain hk | hk := hk
    · exact absurd ((hlink hr).mpr hk) (by simp [old, e])
    · exact hoff hk
  refine ⟨fun hg => ?_, fun hg hl => ?_, fun hg hl hk hoff => ?_, fun hg hl hk hb => ?_, fun hg hl hk hb => ?_, fun r => ?_,
    rfl⟩
  · refine exec_of_refusal rfl ha (?_ : judgeSettingsWrite h es s = _)
    have hnone : newSettings s.settings es = none :=
      Option.eq_none_iff_forall_ne_some.mpr fun c hc => hg (hgood.mp ⟨c, hc⟩)
    unfold judgeSettingsWrite
    rw [hnone]
  · obtain ⟨r, hr⟩ := hgood.mpr hg
    exact exec_of_refusal rfl ha (write_of hr (if_neg hl))
  · obtain ⟨r, hr⟩ := hgood.mpr hg
    refine exec_of_refusal rfl ha (write_of hr ((if_pos hl).trans (if_pos ⟨?_, hoff⟩)))
    exact Bool.eq_false_iff.mpr fun e => hk ((hlink hr).mp e)
  · obtain ⟨r, hr⟩ := hgood.mpr hg
    exact exec_of_refusal rfl ha (write_of hr ((if_pos hl).trans ((if_neg (open_ hr hk)).trans (if_pos (any_belowUsage_iff.mpr hb)))))
  · obtain ⟨r, hr⟩ := hgood.mpr hg
    obtain ⟨hset, hkeep⟩ := of_newSettings hr
    have written : judgeSettingsWrite h es s = accept (s.writeSettings es r) (.settings r) :=
      write_of hr ((if_pos hl).trans ((if_neg (open_ hr hk)).trans (if_neg fun e => hb (any_belowUsage_iff.mp e))))
    have hrestarts : (es.any RawSetting.namesProbe = true ∧ s.probe.left.isSome = true) ↔ restarts := by
      rw [any_namesProbe_iff, Option.isSome_iff_ne_none]
    refine ⟨r, ?_, fun hn => ?_, fun hy => ?_⟩
    · refine ⟨fun hv => (@LineRate.code_injective .k125 _ (hset _ hv)).symm,
        fun hv => (@LineRate.code_injective .k250 _ (hset _ hv)).symm,
        fun hv => (@LineRate.code_injective .k500 _ (hset _ hv)).symm,
        fun hv => (@LineRate.code_injective .k1000 _ (hset _ hv)).symm, kept hr 1 RawSetting.form_lineRate,
        fun v hv => hset _ hv, kept hr 2 RawSetting.form_replyTimeout,
        fun v hv => hset _ hv, kept hr 3 RawSetting.form_segmentGuard,
        fun v hv => hset _ hv, kept hr 4 RawSetting.form_silentThreshold,
        fun v hv => hset _ hv, kept hr 5 RawSetting.form_probeInterval,
        fun k w hv => hset _ hv, fun k hv => ?_⟩
      have hquota := kept hr (6 + k.val) RawSetting.form_quota hv
      fin_cases k <;> exact hquota _ rfl
    · refine exec_of_accept rfl ha (written.trans ?_)
      rw [State.writeSettings, if_neg fun e => hn (hrestarts.mp e)]
    · refine exec_of_accept rfl ha (written.trans ?_)
      rw [State.writeSettings, if_pos (hrestarts.mpr hy)]
      rfl
  · show Settings.bytes r = _
    simp only [Settings.bytes, twoBytes_eq]
    rfl

end Sys2Proof.Machine
end


section
/-! SUPPORT. Events that go out on states with the same ports and queues, what a withdrawal does to each holder, the link out of
service, and the level of FDA, which a withdrawal does not read; the statements about link requests. -/

set_option Elab.async false

namespace Sys2Proof.Machine

/-! ### Events on states that differ elsewhere -/

section
variable {s u : State} (hp : u.ports = s.ports) (hm : u.mail = s.mail) (ht : u.timestamp = s.timestamp)
include hp hm ht

theorem State.queueEvent_mail_of_same (h : HostId) (b : EventBody) : (u.queueEvent h b).mail = (s.queueEvent h b).mail := by
  have hr : u.inReset h = s.inReset h := by simp only [State.inReset, State.port, hp]
  unfold State.queueEvent
  rw [hr]
  split
  · exact hm
  · simp only [State.setMailbox, State.mailbox, hm, ht]

theorem State.queueEvent_of_same (h : HostId) (b : EventBody) :
    u.queueEvent h b = { u with mail := (s.queueEvent h b).mail } := by
  rw [State.queueEvent_eq, State.queueEvent_mail_of_same hp hm ht]

theorem State.queueAll_of_same (b : EventBody) : u.queueAll b = { u with mail := (s.queueAll b).mail } := by
  rw [State.queueAll_eq]
  have hmail : (u.queueAll b).mail = (s.queueAll b).mail := table_ext fun k => by
    have hu := u.queueAll_mailbox k b
    have hs := s.queueAll_mailbox k b
    simp only [State.mailbox, State.inReset, State.port, hp, hm, ht] at hu hs
    exact hu.trans hs.symm
  rw [hmail]

theorem State.queueSubscribers_of_same {l : LaneId} (hl : (u.lane l).subscribers = (s.lane l).subscribers) (b : EventBody) :
    u.queueSubscribers l b = { u with mail := (s.queueSubscribers l b).mail } := by
  rw [State.queueSubscribers_eq]
  have hmail : (u.queueSubscribers l b).mail = (s.queueSubscribers l b).mail := table_ext fun k => by
    have hu := u.queueSubscribers_mailbox l k b
    have hs := s.queueSubscribers_mailbox l k b
    rw [hl] at hu
    simp only [State.mailbox, State.inReset, State.port, hp, hm, ht] at hu hs
    exact hu.trans hs.symm
  rw [hmail]

theorem State.queueOwner_of_same {l : LaneId} (hl : (u.lane l).owner = (s.lane l).owner) (b : EventBody) :
    u.queueOwner l b = { u with mail := (s.queueOwner l b).mail } := by
  cases ho : (s.lane l).owner with
  | none =>
    rw [State.queueOwner_of_none (hl.trans ho), State.queueOwner_of_none ho, ← hm]
  | some h =>
    rw [State.queueOwner_of_owner (hl.trans ho), State.queueOwner_of_owner ho]
    exact State.queueEvent_of_same hp hm ht h b

end

/-- Held responses on states with the same ports. -/
theorem State.readyHeld_of_same {s u : State} (hp : u.ports = s.ports) (k : HeldKind) (r : Reply) :
    u.readyHeld k r = { u with ports := (s.readyHeld k r).ports } := by
  rw [State.readyHeld_eq]
  have hports : (u.readyHeld k r).ports = (s.readyHeld k r).ports := State.ports_ext fun j => by
    rw [State.readyHeld_port, State.readyHeld_port, State.port, hp]
    rfl
  rw [hports]

/-! ### Withdrawal by holder -/

section
variable {s : State} {e : Execution}

theorem State.withdraw_of_none (he : s.exec = none) : s.withdraw = s := by
  simp only [State.withdraw, he]

section
variable (he : s.exec = some e)
include he

theorem State.withdraw_of_stopping {l : LaneId} (hh : e.holder = .lane l) (hr : (s.lane l).run = .stopping) :
    s.withdraw = ({ s with exec := none }.settleToggle e.step e.fullySent).leaveStopping l := by
  simp only [State.withdraw, he, hh]
  exact if_pos hr

theorem State.withdraw_of_lane {l : LaneId} (hh : e.holder = .lane l) (hr : (s.lane l).run ≠ .stopping) :
    s.withdraw = { s with exec := none }.setLane l { s.lane l with run := .suspended } := by
  simp only [State.withdraw, he, hh]
  exact if_neg hr

theorem State.withdraw_of_direct {h : HostId} {r : DirectRequest} {rest : List DirectRequest} (hh : e.holder = .direct h)
    (hq : s.directQueue h = r :: rest) : s.withdraw = { s with exec := none }.setDirectQueue h
      ({ r with attempts := e.attempts, fullySent := e.fullySent, retryLeft := none } :: rest) := by
  have hq' : { s with exec := none }.directQueue h = r :: rest := hq
  simp only [State.withdraw, he, hh, State.keepAtHead, hq']

theorem State.withdraw_of_discarded (hh : e.holder = .discarded) :
    s.withdraw = { s with exec := none }.settleToggle e.step e.fullySent := by
  simp only [State.withdraw, he, hh]

theorem State.withdraw_of_probe (hh : e.holder = .probe) : s.withdraw = { s with exec := none } := by
  simp only [State.withdraw, he, hh]

end

end

theorem Lane.stopped_eq {x : Lane} (h : x.held = none) : x.stopped = { x with
    run := .idle, position := 0, write := none, waiting := false, retryLeft := 0, pending := false, disarmAtEnd := false } := by
  unfold Lane.stopped
  rw [h]

/-- A lane that its host stopped leaves STOPPING off the line, and its LANE_STOP is answered (R36). -/
theorem State.leaveStopping_answered {s : State} {l : LaneId} {h : HostId} {tag : Byte} (he : s.exec = none)
    (ho : (s.lane l).owner = some h) (hh : (s.lane l).held = none) (hb : (s.port h).state = .busy ⟨tag, .laneStop l⟩)
    (hu : ∀ k, k ≠ h → (s.port k).waitsFor ≠ some (.laneStop l)) : s.leaveStopping l
      = ((s.setLane l (s.lane l).stopped).queueEvent h (.passAbandoned l (s.lane l).position)).setPort h { s.port h with
          state := .ready ⟨.ok, tag, .stopped .running⟩
          expiry := 20000 } := by
  have hport (k : HostId) : ((((s.setLane l (s.lane l).stopped).releaseLane l).queueEvent h
      (.passAbandoned l (s.lane l).position)).port k) = s.port k := by
    rw [State.queueEvent_port, State.releaseLane_of_none (s := s.setLane l _) he]
    rfl
  rw [State.leaveStopping_of_owner ho hh, State.readyHeld_of_one (h := h) (tag := tag) (by rw [hport, hb])
    fun k hk => by rw [hport]; exact hu k hk]
  rw [State.respond_of_not_ready _ _ _ _ _ (by rw [hport]; simp [Port.isReady, hb]), hport, Port.answered_eq,
    State.releaseLane_of_none (s := s.setLane l _) he]
  rfl

/-- A lane without an owner leaves STOPPING with no event and no answer (R41). -/
theorem State.leaveStopping_unowned {s : State} {l : LaneId} (he : s.exec = none) (ho : (s.lane l).owner = none)
    (hh : (s.lane l).held = none) (hu : ∀ k, (s.port k).waitsFor ≠ some (.laneStop l)) :
    s.leaveStopping l = s.setLane l (s.lane l).stopped := by
  rw [State.leaveStopping_of_none ho hh, State.releaseLane_of_none (s := s.setLane l _) he, State.readyHeld_of_none]
  exact hu

/-! ### The level of FDA -/

/-- The state in which FDA was last read at a level. -/
def State.reads (s : State) (v : Level) : State := { s with fda := v }

section
variable (s : State) (v : Level)

theorem State.settleToggle_reads (st : Step) (sent : Bool) : (s.reads v).settleToggle st sent = (s.settleToggle st sent).reads v := by
  unfold State.settleToggle
  split
  · split <;> rfl
  · rfl

theorem State.settleHeld_reads (l : LaneId) : (s.reads v).settleHeld l = (s.settleHeld l).reads v := by
  have hlane : (s.reads v).lane l = s.lane l := rfl
  unfold State.settleHeld
  dsimp only
  rw [hlane]
  split
  · exact s.settleToggle_reads v _ _
  · rfl

theorem State.abandonPass_reads (l : LaneId) : (s.reads v).abandonPass l = (s.abandonPass l).reads v := by
  unfold State.abandonPass
  rw [State.settleHeld_reads]
  rfl

theorem State.queueOwner_reads (l : LaneId) (b : EventBody) : (s.reads v).queueOwner l b = (s.queueOwner l b).reads v :=
  (State.queueOwner_of_same (s := s) (u := s.reads v) rfl rfl rfl rfl b).trans
    (congrArg (State.reads · v) (s.queueOwner_eq l b)).symm

theorem State.stopAtOnce_reads (l : LaneId) : (s.reads v).stopAtOnce l = (s.stopAtOnce l).reads v := by
  unfold State.stopAtOnce
  dsimp only
  rw [State.abandonPass_reads, State.queueOwner_reads]
  rfl

theorem State.releaseLane_reads (l : LaneId) : (s.reads v).releaseLane l = (s.releaseLane l).reads v := by
  have hx : (s.reads v).exec = s.exec := rfl
  unfold State.releaseLane
  rw [hx]
  split
  · split <;> rfl
  · rfl

theorem State.readyHeld_reads (k : HeldKind) (r : Reply) : (s.reads v).readyHeld k r = (s.readyHeld k r).reads v :=
  (State.readyHeld_of_same (s := s) (u := s.reads v) rfl k r).trans (congrArg (State.reads · v) (s.readyHeld_eq k r)).symm

theorem State.leaveStopping_reads (l : LaneId) : (s.reads v).leaveStopping l = (s.leaveStopping l).reads v := by
  unfold State.leaveStopping
  rw [State.stopAtOnce_reads, State.releaseLane_reads, State.readyHeld_reads]

theorem State.keepAtHead_reads (h : HostId) (e : Execution) (left : Option Nat) :
    (s.reads v).keepAtHead h e left = (s.keepAtHead h e left).reads v := by
  have hq : (s.reads v).directQueue h = s.directQueue h := rfl
  unfold State.keepAtHead
  rw [hq]
  split <;> rfl

/-- A withdrawal does not read FDA (R65). -/
theorem State.withdraw_reads : (s.reads v).withdraw = s.withdraw.reads v := by
  have hx : (s.reads v).exec = s.exec := rfl
  unfold State.withdraw
  rw [hx]
  split
  · rfl
  next e _ =>
    have drop : { s.reads v with exec := none } = { s with exec := none }.reads v := rfl
    have hlane (l : LaneId) : (State.reads { s with exec := none } v).lane l = s.lane l := rfl
    dsimp only
    rw [drop]
    split
    next l _ =>
      rw [hlane]
      split
      next hr => rw [State.settleToggle_reads, State.leaveStopping_reads]; exact (if_pos hr).symm ▸ rfl
      next hr => exact (if_neg hr).symm ▸ rfl
    · exact State.keepAtHead_reads _ v _ _ _
    · exact State.settleToggle_reads _ v _ _
    · rfl

end

/-! ### The link out of service -/

theorem State.withdraw_settings (s : State) : s.withdraw.settings = s.settings :=
  (State.withdraw_acts (reach := 0) s).holdings.settings

theorem State.announceFault_with (s : State) : s.announceFault
    = { (if s.faultAnnounced then s else s.queueAll .linkFault) with faultAnnounced := true } := by
  unfold State.announceFault
  split
  next h => rw [← h]
  · rfl

/-- A fault on a link that nothing holds and no LINK_DISABLE waits for (R94). -/
theorem State.enterFaulted_of_quiet {s : State} (he : s.exec = none) (hd : s.disableWaiting = false) : s.enterFaulted
    = if s.faultAnnounced then { s with link := .faulted, phaseLeft := 0, watchLeft := 10000, faultAnnounced := true }
      else { s with link := .faulted, phaseLeft := 0, watchLeft := 10000, faultAnnounced := true }.queueAll .linkFault := by
  have hf : s.faulted.disableWaiting = false := by
    rw [State.faulted, State.withdraw_of_none he, State.announceFault_eq]
    exact hd
  rw [State.enterFaulted_eq, if_neg (by simp [hf]), State.faulted, State.withdraw_of_none he, State.announceFault_with]
  split
  · rfl
  · obtain ⟨m, hm⟩ : ∃ m, s.queueAll .linkFault = { s with mail := m } := ⟨_, s.queueAll_eq _⟩
    rw [hm, State.queueAll_of_same (s := s) (u := { s with
      link := .faulted, phaseLeft := 0, watchLeft := 10000, faultAnnounced := true }) rfl rfl rfl, hm]
    rfl

theorem State.with_exec_none {s : State} (h : s.exec = none) : { s with exec := none } = s := by
  rw [← h]

/-- A line reset that begins on a high FDA (R90, R93). -/
theorem State.beginLineReset_of_high (s : State) : (s.reads .high).beginLineReset = { s.withdraw with
    fda := .high
    exec := none
    link := .lineReset .segmentGuard
    segment := 0
    phaseLeft := s.settings.segmentGuard * 10
    watchLeft := 0 } := by
  have hb : (s.reads .high).beginLineReset = ((s.reads .high).withdraw).resetSegment 0 := rfl
  rw [hb, State.withdraw_reads, ← s.withdraw_settings]
  conv_lhs => rw [← State.with_exec_none s.withdraw_exec]
  rfl

/-- A line reset that finds FDA low is a fault (R90, R93). -/
theorem State.beginLineReset_of_low (s : State) : (s.reads .low).beginLineReset = (s.reads .low).enterFaulted := rfl

/-! ### The link requests -/

/-- Settles O46: the lease, the link state, and the line reset on each level of FDA, by the holder. -/
theorem linkEnableAndReset : Obligations.LinkEnableAndReset := by
  intro s h k tag fda e l r rest ha enable reset begun faulted told answer
  have enable_of (hl : s.lease = some h) (ho : s.link = .off) : enable = answer (s.reads fda).beginLineReset :=
    exec_of_accept rfl ha ((asHolder_of_holder _ hl).trans (if_neg (not_not.mpr ho)))
  have reset_of (hl : s.lease = some h) (ho : s.link ≠ .off) : reset = answer (s.reads fda).beginLineReset :=
    exec_of_accept rfl ha ((asHolder_of_holder _ hl).trans (if_neg ho))
  have high (hf : fda = .high) : (s.reads fda).beginLineReset = begun s.withdraw := by
    subst hf
    rw [State.beginLineReset_of_high]
  have low (hf : fda = .low) : (s.reads fda).beginLineReset = (s.reads fda).enterFaulted := by
    subst hf
    rfl
  have quiet (hf : fda = .low) (he : s.exec = none) (hd : s.disableWaiting = false) :
      (s.reads fda).beginLineReset = told := by
    rw [low hf, State.enterFaulted_of_quiet (s := s.reads fda) he hd]
    rfl
  have free (he : s.exec = none) : begun s.withdraw = begun s := by rw [State.withdraw_of_none he]
  refine ⟨fun hl => ⟨?_, ?_⟩, fun hl ho => ?_, fun hl ho => ?_, fun hl ho hf he => ?_, fun hl ho hf he hd => ?_,
    fun hl ho hf => ⟨fun he => ?_, fun he hh hr => ?_, fun he hh hq => ?_, fun he hh => ?_⟩, fun hl ho hf he hd => ?_,
    fun hl ho hf => ?_, fun hl ho hf => ?_, fun hl ho hf => ?_, fun hl ho hf => ?_⟩
  · exact exec_of_refusal rfl ha (asHolder_of_stranger _ hl)
  · exact exec_of_refusal rfl ha (asHolder_of_stranger _ hl)
  · exact exec_of_refusal rfl ha ((asHolder_of_holder _ hl).trans (if_pos ho))
  · refine exec_of_accept rfl ha ((asHolder_of_holder _ hl).trans ((if_pos ho).trans ?_))
    rw [ho]
  · rw [enable_of hl ho, high hf, free he]
  · rw [enable_of hl ho, quiet hf he hd]
  · rw [reset_of hl ho, high hf, free he]
  · rw [reset_of hl ho, high hf, State.withdraw_of_lane he hh (by rw [hr]; decide)]
    rfl
  · rw [reset_of hl ho, high hf, State.withdraw_of_direct he hh hq]
    rfl
  · rw [reset_of hl ho, high hf, State.withdraw_of_probe he hh]
  · rw [reset_of hl ho, quiet hf he hd]
  · rw [reset_of hl ho, high hf]
  · rw [reset_of hl ho, low hf]
    rfl
  · rw [enable_of hl ho, high hf]
  · rw [enable_of hl ho, low hf]
    rfl

/-- Settles O47: at once, or held. -/
theorem linkDisable : Obligations.LinkDisable := by
  intro s h tag ha got
  have disable_of {w : Verdict} (hl : s.lease = some h) (hw : (match s.link with
      | .off => accept s (.link .off)
      | .idle | .faulted => accept s.goOff (.link .off)
      | .switching | .sending | .awaitReply _ | .receiving | .gap | .lineReset _ =>
        .ok ({ s with disableWaiting := true }, .held .linkOff)) = w) : judgeLinkDisable h () s = w :=
    (asHolder_of_holder _ hl).trans hw
  refine ⟨fun hl => ?_, fun hl ho => ?_, fun hl ho he hw => ?_, fun hl ho => ?_⟩
  · exact exec_of_refusal rfl ha (asHolder_of_stranger _ hl)
  · exact exec_of_accept rfl ha (disable_of hl (by rw [ho]))
  · have hoff : s.goOff = { s with link := .off, phaseLeft := 0, watchLeft := 0, disableWaiting := false } := by
      rw [State.goOff_eq, State.withdraw_of_none he]
      exact State.readyHeld_of_none
        (s := { s with link := .off, phaseLeft := 0, watchLeft := 0, disableWaiting := false }) hw _
    refine exec_of_accept rfl ha (disable_of hl ?_)
    rw [← hoff]
    obtain ho | ho := ho <;> rw [ho]
  · refine exec_of_held rfl ha (disable_of hl ?_)
    obtain ht | ho | ho | ho | ho := ho
    · cases hs : s.link <;> simp_all [LinkState.transacts]
    all_goals rw [ho]

/-! ### Power and port reset -/

/-- Settles O24: each port by its state and its PRST. -/
theorem powerAndResetReleases : Obligations.PowerAndResetReleases := by
  intro s h
  refine ⟨fun hr => ?_, ⟨_, rfl, rfl, fun k => ?_⟩, fun hp => ?_⟩
  · show execPortResetRelease h s = _
    simp only [execPortResetRelease, hr]
  · simp [State.port, Port.fresh]
  · refine ⟨{ s with
      porLow := false
      ports := s.ports.map fun p => if p.prst = .high then { p with state := .idle } else p }, if_pos hp, rfl, fun k => ?_⟩
    rw [State.port, look_map]
    rfl

/-! ### Triggers and expiries -/

/-- A trigger is delivered lane by lane, each lane judged by its own source (R43, log 13). -/
theorem State.deliver_congr {f g : TriggerSource → Bool} (h : ∀ c, f c = g c) (s : State) : s.deliver f = s.deliver g := by
  rw [show f = g from funext h]

/-- The lanes that hear an edge of a TRG line are those of its own kind and those of both (R52). -/
theorem hearsEdge_eq (x : Fin 4) (v : Level) (c : TriggerSource) : c.hearsEdge x (v == .high)
    = (c == .edge x .both || (c == .edge x .rising && v == .high) || (c == .edge x .falling && v == .low)) := by
  cases c with
  | edge y k =>
    rw [Bool.eq_iff_iff]
    cases k <;> cases v <;> simp [TriggerSource.hearsEdge, EdgeKind.hears]
  | _ => rfl

/-- Settles O48: the sampler by its recognised level and its last sample. -/
theorem trgSamplesMakeEdges : Obligations.TrgSamplesMakeEdges := by
  intro s x v r hp m moved hears got
  have sampled {y : Sampler} (hy : m.sample v = (y, none)) : got = .next (moved y) := by
    refine (if_neg (by simp [hp])).trans ?_
    simp only [show (look s.samplers x).sample v = (y, none) from hy]
    rfl
  refine ⟨fun hl ha => ?_, fun hl ha => ?_, fun hl => ?_, fun hl hr ha => ?_, fun hl hr ha => ?_⟩
  · refine sampled ?_
    simp only [Sampler.sample, hl, ha, if_true]
  · refine sampled ?_
    simp only [Sampler.sample, hl, ha, if_false]
  · refine sampled ?_
    simp only [Sampler.sample, hl, ne_eq, not_true_eq_false, false_and, if_false]
  · refine sampled ?_
    simp only [Sampler.sample, hl, ha, and_false, if_false]
  · have edge : (look s.samplers x).sample v = (⟨some v, some v⟩, some (v == .high)) := by
      have hv : v ≠ r := hr.symm
      simp only [Sampler.sample, show (look s.samplers x).level = some r from hl,
        show (look s.samplers x).last = some v from ha, hv, ne_eq, not_false_eq_true, and_self, if_true]
    refine (if_neg (by simp [hp])).trans ?_
    simp only [edge]
    exact congrArg Host.Outcome.next (State.deliver_congr (hearsEdge_eq x v) _)

/-- Settles O49: each expiry where its count has run out, and where it has not. -/
theorem expiriesAndChainTriggers : Obligations.ExpiriesAndChainTriggers := by
  intro s t y l h r rest delivered
  have listens (c : TriggerSource) (u : State) : u.deliver (fun d => d == c) = delivered c u := by
    unfold State.deliver
    simp only [delivered, beq_iff_eq]
  refine ⟨fun hr hl => ?_, fun hn => ?_, fun hy => ?_, fun hy => if_neg hy, fun hr => if_pos hr, fun hr => if_neg hr,
    fun hq => ?_, fun hq => ?_, fun hp hl => ?_, fun hl => ?_, fun hl ht => ?_, fun hn => ?_⟩
  · refine (if_pos ⟨hr, hl⟩).trans ?_
    rw [listens]
    rfl
  · exact if_neg fun e => hn.elim (fun hr => by simp [hr] at e) fun hl => hl e.2
  · refine (if_pos hy).trans ?_
    rw [listens]
  · show (match s.directQueue h with
      | r :: rest => Host.Outcome.next (s.setDirectQueue h ({ r with retryLeft := none } :: rest))
      | [] => .next s) = _
    rw [hq]
  · show (match s.directQueue h with
      | r :: rest => Host.Outcome.next (s.setDirectQueue h ({ r with retryLeft := none } :: rest))
      | [] => .next s) = _
    rw [hq]
  · exact if_pos ⟨hp, hl⟩
  · exact if_neg fun e => hl e.2
  · show execLeaseExpiry s = _
    rw [execLeaseExpiry, hl]
    exact if_pos ht
  · show execLeaseExpiry s = _
    unfold execLeaseExpiry
    cases hl : s.lease with
    | none => rfl
    | some k => exact if_neg (hn.resolve_left (by simp [hl]))

end Sys2Proof.Machine
end


section
/-! SUPPORT. The arbiter's choice as the first in turn, and the statement about it. -/

set_option Elab.async false

namespace Sys2Proof.Machine

/-! ### The first in turn -/

/-- What a search finds in a list in strictly increasing order is the least that it may find. -/
theorem least_of_find {α : Type} {l : List α} {p : α → Bool} {f : α → Nat} (hs : l.Pairwise (fun a b => f a < f b)) {i : α}
    (h : l.find? p = some i) : p i = true ∧ ∀ j ∈ l, p j = true → f i ≤ f j ∧ (f j ≤ f i → j = i) := by
  obtain ⟨hi, as, bs, rfl, has⟩ := List.find?_eq_some_iff_append.mp h
  refine ⟨hi, fun j hj hp => ?_⟩
  obtain hj | hj := List.mem_append.mp hj
  · exact absurd hp (by simpa using has j hj)
  · obtain rfl | hj := List.mem_cons.mp hj
    · exact ⟨le_rfl, fun _ => rfl⟩
    · have hlt := List.rel_of_pairwise_cons (List.pairwise_append.mp hs).2.1 hj
      exact ⟨hlt.le, fun hle => absurd hlt (Nat.not_lt.mpr hle)⟩

theorem turn_of_after {n : Nat} {p i : Fin n} (h : p < i) : turn n (some p) i = i.val - p.val - 1 := by
  have hlt : p.val < i.val := h
  have he : i.val + n - p.val - 1 = (i.val - p.val - 1) + n := by omega
  rw [turn, he, Nat.add_mod_right]
  exact Nat.mod_eq_of_lt (by omega)

theorem turn_of_upto {n : Nat} {p i : Fin n} (h : ¬ p < i) : turn n (some p) i = i.val + n - p.val - 1 := by
  have hle : i.val ≤ p.val := Nat.not_lt.mp h
  rw [turn]
  exact Nat.mod_eq_of_lt (by omega)

section
variable {α : Type} {n : Nat} {place : α → Fin n} {all : List α}

/-- What comes after a pointer, then the rest, is the order of turns (R63, R81). -/
theorem turned_sorted (hs : all.Pairwise fun a b => place a < place b) (p : α) :
    (all.filter (fun i => decide (place p < place i)) ++ all.filter (fun i => !decide (place p < place i))).Pairwise
      fun a b => turn n (some (place p)) (place a) < turn n (some (place p)) (place b) := by
  rw [List.pairwise_append, List.pairwise_filter, List.pairwise_filter]
  refine ⟨hs.imp fun {a b} hab ha hb => ?_, hs.imp fun {a b} hab ha hb => ?_, fun a ha b hb => ?_⟩
  · rw [turn_of_after (by simpa using ha), turn_of_after (by simpa using hb)]
    have ha : (place p).val < (place a).val := by simpa using ha
    have hab : (place a).val < (place b).val := hab
    omega
  · rw [turn_of_upto (by simpa using ha), turn_of_upto (by simpa using hb)]
    have hab : (place a).val < (place b).val := hab
    omega
  · have ha : place p < place a := by simpa using (List.mem_filter.mp ha).2
    have hb : ¬ place p < place b := by simpa using (List.mem_filter.mp hb).2
    rw [turn_of_after ha, turn_of_upto hb]
    omega

theorem mem_turned {i : α} (hi : i ∈ all) (p : α) :
    i ∈ all.filter (fun i => decide (place p < place i)) ++ all.filter (fun i => !decide (place p < place i)) := by
  by_cases h : place p < place i <;> simp [hi, h]

end

theorem inTurn_some {n : Nat} (all : List (Fin n)) (p : Fin n) :
    inTurn all (some p) = all.filter (fun i => decide (p < i)) ++ all.filter (fun i => !decide (p < i)) := by
  rw [inTurn]
  congr 1
  refine List.filter_congr fun i _ => ?_
  rw [← decide_not]
  exact decide_eq_decide.mpr not_lt.symm

theorem inTurn_sorted {n : Nat} {all : List (Fin n)} (hs : all.Pairwise (· < ·)) (p : Option (Fin n)) :
    (inTurn all p).Pairwise fun a b => turn n p a < turn n p b := by
  cases p with
  | none => exact hs
  | some p =>
    rw [inTurn_some]
    exact turned_sorted (place := id) hs p

theorem mem_inTurn {n : Nat} {all : List (Fin n)} {i : Fin n} (hi : i ∈ all) (p : Option (Fin n)) : i ∈ inTurn all p := by
  cases p with
  | none => exact hi
  | some p =>
    rw [inTurn_some]
    exact mem_turned (place := id) hi p

theorem allHosts_sorted : allHosts.Pairwise (· < ·) := by decide

theorem allLanes_sorted : allLanes.Pairwise (· < ·) := by decide

theorem mem_allHosts (h : HostId) : h ∈ allHosts := by fin_cases h <;> simp [allHosts]

theorem mem_allLanes (l : LaneId) : l ∈ allLanes := by fin_cases l <;> simp [allLanes]

/-! ### Candidates of each level -/

section
variable {s : State}

/-- A direct head is a candidate where it is neither in retry wait nor in execution (R60). -/
theorem State.directWaits_iff {h : HostId} : s.directWaits h = true
    ↔ ∃ r rest, s.directQueue h = r :: rest ∧ r.retryLeft = none ∧ ∀ e, s.exec = some e → e.holder ≠ .direct h := by
  unfold State.directWaits
  cases hq : s.directQueue h with
  | nil => simp
  | cons r rest => cases he : s.exec <;> simp [Option.isNone_iff_eq_none]

theorem State.laneWaits_iff {l : LaneId} : s.laneWaits l = true ↔ (s.lane l).run = .ready ∨ (s.lane l).run = .suspended := by
  unfold State.laneWaits
  cases (s.lane l).run <;> simp

/-- A lane is a candidate of a level (R60). -/
def State.LaneAt (s : State) (p : Fin 4) (l : LaneId) : Prop :=
  ((s.lane l).run = .ready ∨ (s.lane l).run = .suspended) ∧ (s.lane l).config.priority = p

theorem State.laneAt_iff {p : Fin 4} {l : LaneId} :
    (s.laneWaits l && (s.lane l).config.priority == p) = true ↔ s.LaneAt p l := by
  rw [Bool.and_eq_true, State.laneWaits_iff, beq_iff_eq]
  rfl

theorem State.directPick_eq_none_iff : s.directPick = none ↔ ∀ k, s.directWaits k = false := by
  rw [State.directPick, List.find?_eq_none]
  exact ⟨fun h k => by simpa using h k (mem_inTurn (mem_allHosts k) _), fun h k _ => by simp [h k]⟩

theorem State.directPick_of_some {h : HostId} (hd : s.directPick = some h) :
    s.directWaits h = true ∧ ∀ k, s.directWaits k = true →
      turn 4 s.directPtr h ≤ turn 4 s.directPtr k ∧ (turn 4 s.directPtr k ≤ turn 4 s.directPtr h → k = h) := by
  obtain ⟨hw, hmin⟩ := least_of_find (inTurn_sorted allHosts_sorted s.directPtr) hd
  exact ⟨hw, fun k hk => hmin k (mem_inTurn (mem_allHosts k) _) hk⟩

theorem State.lanePick_eq_none_iff {p : Fin 4} : s.lanePick p = none ↔ ∀ m, ¬ s.LaneAt p m := by
  rw [State.lanePick, List.find?_eq_none]
  simp only [State.laneAt_iff]
  exact ⟨fun h k => h k (mem_inTurn (mem_allLanes k) _), fun h k _ => h k⟩

theorem State.lanePick_of_some {p : Fin 4} {l : LaneId} (hl : s.lanePick p = some l) :
    s.LaneAt p l ∧ ∀ m, s.LaneAt p m → turn 8 (look s.lanePtr p) l ≤ turn 8 (look s.lanePtr p) m
      ∧ (turn 8 (look s.lanePtr p) m ≤ turn 8 (look s.lanePtr p) l → m = l) := by
  obtain ⟨hw, hmin⟩ := least_of_find (inTurn_sorted allLanes_sorted (look s.lanePtr p)) hl
  exact ⟨State.laneAt_iff.mp hw, fun m hm => hmin m (mem_inTurn (mem_allLanes m) _) (State.laneAt_iff.mpr hm)⟩

theorem State.laneCandidate_eq (ps : List (Fin 4)) : s.laneCandidate ps = ps.findSome? s.lanePick := by
  induction ps with
  | nil => rfl
  | cons p rest ih =>
    rw [State.laneCandidate, List.findSome?_cons, ih]
    cases s.lanePick p <;> rfl

theorem State.laneCandidate_eq_none_iff {ps : List (Fin 4)} :
    s.laneCandidate ps = none ↔ ∀ p ∈ ps, ∀ m, ¬ s.LaneAt p m := by
  rw [State.laneCandidate_eq, List.findSome?_eq_none_iff]
  simp only [State.lanePick_eq_none_iff]

/-- The candidate of levels in decreasing order is of the highest that has one (R62). -/
theorem State.laneCandidate_of_some {ps : List (Fin 4)} (hs : ps.Pairwise (· > ·)) {l : LaneId}
    (hl : s.laneCandidate ps = some l) :
    ∃ p ∈ ps, s.lanePick p = some l ∧ ∀ q ∈ ps, p < q → ∀ m, ¬ s.LaneAt q m := by
  rw [State.laneCandidate_eq] at hl
  obtain ⟨as, p, bs, rfl, hp, has⟩ := List.findSome?_eq_some_iff.mp hl
  refine ⟨p, by simp, hp, fun q hq hlt => ?_⟩
  obtain hq | hq := List.mem_append.mp hq
  · exact State.lanePick_eq_none_iff.mp (has q hq)
  · obtain rfl | hq := List.mem_cons.mp hq
    · exact absurd hlt (lt_irrefl q)
    · exact absurd hlt (lt_asymm (List.rel_of_pairwise_cons (List.pairwise_append.mp hs).2.1 hq))

end

/-! ### The target of a probe -/

/-- The place of a station in the order of R81. -/
def stationPlace (b : SegmentId × StationId) : Fin 124 := ⟨31 * b.1.val + b.2.val, by omega⟩

theorem stationAfter_eq (a b : SegmentId × StationId) : stationAfter a b = decide (stationPlace a < stationPlace b) := by
  obtain ⟨g, m⟩ := a
  obtain ⟨k, n⟩ := b
  rw [Bool.eq_iff_iff]
  simp only [stationAfter, stationPlace, Bool.or_eq_true, Bool.and_eq_true, decide_eq_true_iff, beq_iff_eq, Fin.lt_def,
    Fin.ext_iff]
  omega

theorem allStations_sorted : allStations.Pairwise fun a b => stationPlace a < stationPlace b := by
  unfold allStations
  rw [List.pairwise_flatMap]
  refine ⟨fun g _ => ?_, ?_⟩
  · rw [List.pairwise_map]
    refine (List.pairwise_lt_finRange 31).imp fun {a b} hab => ?_
    have hab : a.val < b.val := hab
    simp only [stationPlace, Fin.lt_def]
    omega
  · refine (List.pairwise_lt_finRange 4).imp fun {a b} hab => ?_
    have hab : a.val < b.val := hab
    simp only [List.mem_map, forall_exists_index, and_imp]
    rintro x m - rfl y n - rfl
    simp only [stationPlace, Fin.lt_def]
    omega

theorem mem_allStations (b : SegmentId × StationId) : b ∈ allStations := by
  simp [allStations]

section
variable {s : State}

theorem State.probeTarget_eq : ∃ order : List (SegmentId × StationId), s.probeTarget = order.find? (fun b => (s.station b.1 b.2).silent)
    ∧ (∀ b, b ∈ order) ∧ order.Pairwise fun a b => stationTurn s.probe.last a < stationTurn s.probe.last b := by
  cases hl : s.probe.last with
  | none =>
    refine ⟨allStations, by rw [State.probeTarget, hl], mem_allStations, allStations_sorted⟩
  | some a =>
    refine ⟨_, by simp only [State.probeTarget, hl, stationAfter_eq], fun b => mem_turned (mem_allStations b) a,
      turned_sorted allStations_sorted a⟩

theorem State.probeTarget_eq_none_iff : s.probeTarget = none ↔ ∀ seg st, (s.station seg st).silent = false := by
  obtain ⟨order, ht, hall, -⟩ := s.probeTarget_eq
  rw [ht, List.find?_eq_none]
  exact ⟨fun h seg st => by simpa using h (seg, st) (hall _), fun h b _ => by simp [h b.1 b.2]⟩

theorem State.probeTarget_of_some {b : SegmentId × StationId} (h : s.probeTarget = some b) :
    (s.station b.1 b.2).silent = true ∧ ∀ g n, (s.station g n).silent = true →
      stationTurn s.probe.last b ≤ stationTurn s.probe.last (g, n) := by
  obtain ⟨order, ht, hall, hs⟩ := s.probeTarget_eq
  obtain ⟨hb, hmin⟩ := least_of_find hs (ht ▸ h)
  exact ⟨hb, fun g n hg => (hmin (g, n) (hall _) hg).1⟩

end

/-- Settles O50: the first level that has a candidate, and the first in turn within it. -/
theorem highestCandidateInTurn : Obligations.HighestCandidateInTurn := by
  intro s lanesAt
  refine ⟨fun h => State.directWaits_iff, ?_⟩
  unfold State.bestCandidate
  cases hd : s.directPick with
  | some h =>
    obtain ⟨hw, hmin⟩ := State.directPick_of_some hd
    exact ⟨hw, fun k hk => (hmin k hk).1⟩
  | none =>
    have hnone := State.directPick_eq_none_iff.mp hd
    cases hl : s.laneCandidate [3, 2, 1, 0] with
    | some l =>
      obtain ⟨p, -, hp, hhigh⟩ := State.laneCandidate_of_some (by decide) hl
      obtain ⟨hw, hmin⟩ := State.lanePick_of_some hp
      exact ⟨hnone, p, hw, fun q m hq => hhigh q (by fin_cases q <;> simp) hq m, fun m hm => (hmin m hm).1⟩
    | none =>
      have hlanes (p : Fin 4) (m : LaneId) : ¬ s.LaneAt p m :=
        State.laneCandidate_eq_none_iff.mp hl p (by fin_cases p <;> simp) m
      cases hdue : s.probe.due with
      | false =>
        simp only [State.probePick, hdue]
        exact ⟨hnone, hlanes, by simp⟩
      | true =>
        cases ht : s.probeTarget with
        | none =>
          simp only [State.probePick, hdue, ht]
          exact ⟨hnone, hlanes, fun _ => State.probeTarget_eq_none_iff.mp ht⟩
        | some b =>
          simp only [State.probePick, hdue, ht]
          obtain ⟨hb, hmin⟩ := State.probeTarget_of_some ht
          exact ⟨hnone, hlanes, trivial, hb, hmin⟩

/-! ### Replies -/

/-- The bytes of a reply up to those that stand in front of it (R84). -/
theorem map_replyByte_append (data rest : List Byte) :
    (List.range data.length).map (replyByte (data ++ rest)) = data := by
  refine List.ext_getElem (by simp) fun i h h' => ?_
  simp [replyByte, List.getElem?_append_left h', h']

theorem replyByte_length (data rest : List Byte) (check : Byte) :
    replyByte (data ++ check :: rest) data.length = check := by
  simp [replyByte]

/-- The bits that a station does not send read as 1s (R84). -/
theorem replyByte_padded (rest : List Byte) (k : Nat) : replyByte (rest ++ List.replicate k 0xFF#8) = replyByte rest := by
  funext i
  unfold replyByte
  by_cases hi : i < rest.length
  · rw [List.getD_append _ _ _ _ hi]
  · rw [List.getD_append_right _ _ _ _ (Nat.not_lt.mp hi), List.getD_eq_default rest _ (Nat.not_lt.mp hi)]
    by_cases hk : i - rest.length < k
    · rw [List.getD_replicate _ hk]
    · rw [List.getD_eq_default]
      simpa using hk

/-- Settles O53: the start mark, the status, the bytes asked for and their check byte. -/
theorem repliesAreJudged : Obligations.RepliesAreJudged := by
  intro n status check data rest
  refine ⟨rfl, fun h5 h3 h0 => ?_, fun hn => ?_, ?_, ?_, fun _ => ?_⟩
  · simp only [judgeReply, h5, h3, h0, if_false]
  · subst hn
    simp only [judgeReply, checkReply, map_replyByte_append, replyByte_length, if_true, eq_comm]
  · have h := replyByte_length [] rest check
    simp only [judgeReply, checkReply, List.nil_append, List.length_nil] at h ⊢
    simp [h, eq_comm]
  · have h := replyByte_length [] rest check
    simp only [judgeReply, checkReply, List.nil_append, List.length_nil] at h ⊢
    simp [h, eq_comm]
  · simp only [judgeReply, checkReply, replyByte_padded]

end Sys2Proof.Machine
end


section
/-! SUPPORT. Pass completions and step boundaries as the next state they leave, and the statements about them. -/

set_option Elab.async false

namespace Sys2Proof.Machine

/-! ### Pass completion -/

/-- A chain trigger of a lane is due (R56, log 14). -/
def State.noteChain (s : State) (l : LaneId) : State := { s with chainDue := s.chainDue ++ [l] }

section
variable (s : State) (l : LaneId)

theorem State.setLane_noteChain (m : LaneId) (x : Lane) : (s.noteChain l).setLane m x = (s.setLane m x).noteChain l := rfl

theorem State.passStart_noteChain (m : LaneId) : (s.noteChain l).passStart m = (s.passStart m).noteChain l := by
  have hb : (s.noteChain l).chooseBank m = s.chooseBank m := rfl
  cases h : s.chooseBank m with
  | some b => rw [State.passStart_of_some h, State.passStart_of_some (hb.trans h)]; rfl
  | none => rw [State.passStart_of_none h, State.passStart_of_none (hb.trans h)]; rfl

theorem State.queueOwner_noteChain (m : LaneId) (b : EventBody) :
    (s.noteChain l).queueOwner m b = (s.queueOwner m b).noteChain l := by
  exact (State.queueOwner_of_same (s := s) (u := s.noteChain l) rfl rfl rfl rfl b).trans
    (congrArg (State.noteChain · l) (s.queueOwner_eq m b)).symm

theorem State.queueSubscribers_noteChain (m : LaneId) (b : EventBody) :
    (s.noteChain l).queueSubscribers m b = (s.queueSubscribers m b).noteChain l := by
  obtain ⟨t, ht⟩ : ∃ t, s.queueSubscribers m b = { s with mail := t } := ⟨_, s.queueSubscribers_eq m b⟩
  rw [State.queueSubscribers_of_same (s := s) (u := s.noteChain l) rfl rfl rfl rfl b, ht]
  rfl

theorem State.countOverrun_noteChain (m : LaneId) : (s.noteChain l).countOverrun m = (s.countOverrun m).noteChain l := by
  obtain ⟨h, e⟩ | ⟨h, e⟩ := s.countOverrun_cases m <;>
    obtain ⟨h', e'⟩ | ⟨h', e'⟩ := (s.noteChain l).countOverrun_cases m
  · rw [e, e', ← State.queueOwner_noteChain]
    rfl
  · exact absurd h h'
  · exact absurd h' h
  · rw [e, e']
    rfl

theorem State.afterPass_noteChain (m : LaneId) : (s.noteChain l).afterPass m = (s.afterPass m).noteChain l := by
  have hlane : (s.noteChain l).lane m = s.lane m := rfl
  unfold State.afterPass
  dsimp only
  rw [hlane]
  split
  · split
    · rw [State.setLane_noteChain, State.passStart_noteChain]
    · rfl
  · split
    · rw [State.setLane_noteChain, State.countOverrun_noteChain]
    · rfl

theorem State.queueSubscribers_setLane {x : Lane} (hx : x.subscribers = (s.lane l).subscribers) (b : EventBody) :
    (s.setLane l x).queueSubscribers l b = (s.queueSubscribers l b).setLane l x := by
  have hsub : ((s.setLane l x).lane l).subscribers = (s.lane l).subscribers := by rw [State.lane_setLane_self]; exact hx
  obtain ⟨t, ht⟩ : ∃ t, s.queueSubscribers l b = { s with mail := t } := ⟨_, s.queueSubscribers_eq l b⟩
  rw [State.queueSubscribers_of_same (s := s) (u := s.setLane l x) rfl rfl rfl hsub b, ht]
  rfl

/-- A completion is a stamp, PASS_DONE and a chain trigger, then the swap in the lane record and its next state (R72). -/
theorem State.completePass_of_write {b : BankId} (hw : (s.lane l).write = some b) : s.completePass l
    = (((((s.setBank l b { s.bank l b with
          stamp := ⟨(s.lane l).generation + 1, s.timestamp, (s.lane l).errorCount, (s.bank l b).written⟩ }).noteChain
        l).queueSubscribers l (.passDone l ((s.lane l).generation + 1) (s.lane l).errorCount))).setLane l
      { s.lane l with front := some b, write := none, generation := (s.lane l).generation + 1 }).afterPass l := by
  obtain ⟨hn, -⟩ | ⟨c, hc, e⟩ := s.swapBanks_cases l
  · simp [hw] at hn
  · obtain rfl : c = b := Option.some.inj (hc.symm.trans hw)
    have hpass : s.completePass l = (((s.swapBanks l).queueSubscribers l (.passDone l ((s.swapBanks l).lane l).generation
        ((s.swapBanks l).lane l).errorCount)).afterPass l).noteChain l := rfl
    rw [hpass, e, State.lane_setLane_self, State.queueSubscribers_setLane, State.queueSubscribers_noteChain,
      State.setLane_noteChain, State.afterPass_noteChain]
    rfl

end

/-! The lane's next state by mode, disarm-at-end and pending (R73). -/

section
variable {s : State} {l : LaneId}

theorem State.afterPass_armed (ha : (s.lane l).config.mode = .continuous ∧ (s.lane l).disarmAtEnd = false)
    (hp : (s.lane l).pending = false) : s.afterPass l = s.setLane l { s.lane l with run := .armed, position := 0 } :=
  (if_pos ha).trans (if_neg (by simp [hp]))

theorem State.afterPass_again (ha : (s.lane l).config.mode = .continuous ∧ (s.lane l).disarmAtEnd = false)
    (hp : (s.lane l).pending = true) : s.afterPass l = (s.setLane l { s.lane l with pending := false }).passStart l :=
  (if_pos ha).trans (if_pos hp)

theorem State.afterPass_idle (ha : ¬ ((s.lane l).config.mode = .continuous ∧ (s.lane l).disarmAtEnd = false))
    (hp : (s.lane l).pending = false) : s.afterPass l
      = s.setLane l { s.lane l with run := .idle, position := 0, disarmAtEnd := false, pending := false } :=
  (if_neg ha).trans (if_neg (by simp [hp]))

theorem State.afterPass_overrun (ha : ¬ ((s.lane l).config.mode = .continuous ∧ (s.lane l).disarmAtEnd = false))
    (hp : (s.lane l).pending = true) : s.afterPass l
      = (s.setLane l { s.lane l with run := .idle, position := 0, disarmAtEnd := false, pending := false }).countOverrun l :=
  (if_neg ha).trans (if_pos hp)

end

/-- Settles O58: the swap, then the lane's next state by mode, disarm-at-end and pending. -/
theorem passCompletionPublishes : Obligations.PassCompletionPublishes := by
  intro s l b hw x g written u y idle again
  have hcomplete : s.completePass l = (u.setLane l y).afterPass l := by
    rw [State.completePass_of_write s l hw, Bank.written, List.countP_eq_length_filter]
    rfl
  have hlane : (u.setLane l y).lane l = y := State.lane_setLane_self ..
  have hset (z : Lane) : (u.setLane l y).setLane l z = u.setLane l z := State.setLane_setLane ..
  have hidle : (u.setLane l idle).lane l = idle := State.lane_setLane_self ..
  have hset' (z : Lane) : (u.setLane l idle).setLane l z = u.setLane l z := State.setLane_setLane ..
  refine ⟨fun ha hp => ?_, fun ha hp => ?_, fun ha hp => ?_, fun ha hp ho => ?_, fun ha hp ho => ?_⟩
  · rw [hcomplete, State.afterPass_armed (by rw [hlane]; exact ha) (by rw [hlane]; exact hp), hlane, hset]
  · rw [hcomplete, State.afterPass_again (by rw [hlane]; exact ha) (by rw [hlane]; exact hp), hlane, hset]
  · rw [hcomplete, State.afterPass_idle (by rw [hlane]; exact ha) (by rw [hlane]; exact hp), hlane, hset]
  · rw [hcomplete, State.afterPass_overrun (by rw [hlane]; exact ha) (by rw [hlane]; exact hp), hlane, hset]
    obtain ⟨-, e⟩ | ⟨h, -⟩ := (u.setLane l idle).countOverrun_cases l
    · rw [e, hidle, hset']
    · rw [hidle] at h
      exact absurd ho h
  · rw [hcomplete, State.afterPass_overrun (by rw [hlane]; exact ha) (by rw [hlane]; exact hp), hlane, hset]
    obtain ⟨h, -⟩ | ⟨-, e⟩ := (u.setLane l idle).countOverrun_cases l
    · rw [hidle] at h
      exact absurd h ho
    · rw [e, hidle, hset']
      rfl

/-! ### Step boundaries -/

section
variable {s : State} {l : LaneId}

theorem State.stepsLeft_of_none (h : (s.lane l).program[(s.lane l).position]? = none) : s.stepsLeft l = [] :=
  List.drop_eq_nil_of_le (List.getElem?_eq_none_iff.mp h)

theorem State.stepsLeft_of_some {st : Step} (h : (s.lane l).program[(s.lane l).position]? = some st) :
    s.stepsLeft l = st :: (s.lane l).program.drop ((s.lane l).position + 1) := by
  obtain ⟨hlt, rfl⟩ := List.getElem?_eq_some_iff.mp h
  exact List.drop_eq_getElem_cons hlt

theorem State.passChecks_step {st : Step} (rest : List Step) (h : st.segment ≠ none) :
    s.passChecks l (st :: rest) = .goesOn st s := by
  cases st with
  | brk tag => exact absurd rfl h
  | _ => rfl

theorem State.passChecks_break_passed {tag : Byte} (rest : List Step) (h : (s.lane l).pending = true) :
    s.passChecks l (.brk tag :: rest) = (s.setLane l { s.lane l with
      position := (s.lane l).position + 1, pending := false }).passChecks l rest := by
  rw [State.passChecks]
  exact if_pos h

theorem State.passChecks_break_held {tag : Byte} (rest : List Step) (h : (s.lane l).pending = false) :
    s.passChecks l (.brk tag :: rest) = .ended ((s.setLane l { s.lane l with
      position := (s.lane l).position + 1, run := .atBreak }).queueOwner l (.breakReached l (s.lane l).position tag)) := by
  rw [State.passChecks]
  exact if_neg (by simp [h])

theorem State.boundary_of_ended {t : State} (h : s.passChecks l (s.stepsLeft l) = .ended t) : s.boundary l = t := by
  rw [State.boundary, h]

theorem State.boundary_of_step {st : Step} {t : State} (h : s.passChecks l (s.stepsLeft l) = .goesOn st t) :
    s.boundary l = if t.higherWaits (t.lane l).config.priority then (t.suspendPass l).passGrant else t.execute l st := by
  rw [State.boundary, h]

theorem State.execute_of_fresh {st : Step} (h : (s.lane l).held = none) : s.execute l st = { s with
    exec := some ⟨.lane l, st, (s.lane l).config.limit, (s.lane l).config.interval, 0, false, false, ⟨[], false⟩⟩ } := by
  have hx : { s.lane l with held := none } = s.lane l := by rw [← h]
  have hset : s.setLane l { s.lane l with held := none } = s := by rw [hx, State.setLane_lane]
  unfold State.execute
  dsimp only
  rw [hset, h]
  rfl

/-- A candidate of a level strictly higher than a priority (R68). -/
theorem State.higherWaits_iff {p : Fin 4} : s.higherWaits p = true
    ↔ (∃ k, s.directWaits k = true) ∨ ∃ q m, p < q ∧ s.LaneAt q m := by
  have direct : s.directPick.isSome = true ↔ ∃ k, s.directWaits k = true := by
    rw [Option.isSome_iff_ne_none, ne_eq, State.directPick_eq_none_iff]
    simp
  have lanes : (s.laneCandidate ([3, 2, 1, 0].filter fun q => p < q)).isSome = true ↔ ∃ q m, p < q ∧ s.LaneAt q m := by
    have level (q : Fin 4) : q ∈ [3, 2, 1, 0].filter (fun q => decide (p < q)) ↔ p < q := by
      rw [List.mem_filter, decide_eq_true_iff]
      exact and_iff_right (by fin_cases q <;> simp)
    rw [Option.isSome_iff_ne_none, ne_eq, State.laneCandidate_eq_none_iff]
    simp only [level]
    push Not
    exact ⟨fun ⟨q, hq, m, hm⟩ => ⟨q, m, hq, hm⟩, fun ⟨q, m, hq, hm⟩ => ⟨q, hq, m, hm⟩⟩
  rw [State.higherWaits, Bool.or_eq_true, direct, lanes]

/-! Who receives the grant. -/

theorem State.directPick_eq_some {h : HostId} (hw : s.directWaits h = true)
    (hmin : ∀ k, s.directWaits k = true → turn 4 s.directPtr h ≤ turn 4 s.directPtr k) : s.directPick = some h := by
  cases hd : s.directPick with
  | none => simp [State.directPick_eq_none_iff.mp hd h] at hw
  | some k =>
    obtain ⟨hk, hfirst⟩ := State.directPick_of_some hd
    rw [(hfirst h hw).2 (hmin k hk)]

theorem State.passGrant_of_direct {h : HostId} {r : DirectRequest} {rest : List DirectRequest} (hw : s.directPick = some h)
    (hq : s.directQueue h = r :: rest) : s.passGrant = { s with
      directPtr := some h
      exec := some ⟨.direct h, r.step, r.limit, r.interval, r.attempts, r.fullySent, false, ⟨[], false⟩⟩ } := by
  simp only [State.passGrant, State.bestCandidate, hw, State.giveGrant, State.grantDirect, hq]

/-- The one lane that is first in turn at the highest level that has a candidate. -/
theorem State.laneCandidate_eq_some {p : Fin 4} {m : LaneId} (hm : s.LaneAt p m) (hhigh : ∀ q k, p < q → ¬ s.LaneAt q k)
    (hmin : ∀ k, s.LaneAt p k → turn 8 (look s.lanePtr p) m ≤ turn 8 (look s.lanePtr p) k) :
    s.laneCandidate [3, 2, 1, 0] = some m := by
  have level (q : Fin 4) : q ∈ [(3 : Fin 4), 2, 1, 0] := by fin_cases q <;> simp
  cases hc : s.laneCandidate [3, 2, 1, 0] with
  | none => exact absurd hm (State.laneCandidate_eq_none_iff.mp hc p (level p) m)
  | some k =>
    obtain ⟨q, -, hpick, hno⟩ := State.laneCandidate_of_some (by decide) hc
    obtain ⟨hk, hfirst⟩ := State.lanePick_of_some hpick
    obtain hlt | rfl | hlt := lt_trichotomy p q
    · exact absurd hk (hhigh q k hlt)
    · rw [(hfirst m hm).2 (hmin k hk)]
    · exact absurd hm (hno p (level p) hlt m)

/-- A lane that receives the grant at a step is RUNNING with it (R64, R99). -/
theorem State.grantLane_of_step {st : Step} (h : (s.lane l).program[(s.lane l).position]? = some st)
    (hs : st.segment ≠ none) : s.grantLane l = { s.setLane l { s.lane l with run := .running, held := none } with
      lanePtr := put s.lanePtr (s.lane l).config.priority (some l)
      exec := some ⟨.lane l, st, (s.lane l).config.limit, (s.lane l).config.interval,
        ((s.lane l).held.getD ⟨0, false⟩).attempts, ((s.lane l).held.getD ⟨0, false⟩).fullySent, false, ⟨[], false⟩⟩ } := by
  let u : State := { s.setLane l { s.lane l with run := .running } with
    lanePtr := put s.lanePtr (s.lane l).config.priority (some l) }
  have hlane : u.lane l = { s.lane l with run := .running } := State.lane_setLane_self ..
  have hleft : u.stepsLeft l = st :: ((s.lane l).program.drop ((s.lane l).position + 1)) := by
    rw [State.stepsLeft_of_some (s := u) (st := st) (by rw [hlane]; exact h), hlane]
  have hgrant : s.grantLane l = match u.passChecks l (u.stepsLeft l) with
      | .ended s => s
      | .goesOn st s => s.execute l st := rfl
  rw [hgrant, hleft, State.passChecks_step _ hs]
  show u.execute l st = _
  unfold State.execute
  dsimp only
  rw [hlane]
  have hset : u.setLane l { s.lane l with run := .running, held := none } = { s.setLane l { s.lane l with
      run := .running, held := none } with lanePtr := put s.lanePtr (s.lane l).config.priority (some l) } := by
    have h' := s.setLane_setLane l { s.lane l with run := .running } { s.lane l with run := .running, held := none }
    rw [← h']
    rfl
  rw [hset]

theorem State.passGrant_of_lane {m : LaneId} (hd : s.directPick = none) (hl : s.laneCandidate [3, 2, 1, 0] = some m) :
    s.passGrant = s.grantLane m := by
  simp only [State.passGrant, State.bestCandidate, hd, hl, State.giveGrant]

end

/-- Settles O57: the steps left, the higher levels, then the resume policy and the new holder. -/
theorem stepBoundaryOrder : Obligations.StepBoundaryOrder := by
  intro s l m tag st sm h r rest b x y next waits higher granted kept handed restarted
  have step (hn : next = some st) (hs : st.segment ≠ none) : s.boundary l
      = if s.higherWaits x.config.priority then (s.suspendPass l).passGrant else s.execute l st := by
    refine State.boundary_of_step ?_
    rw [State.stepsLeft_of_some hn]
    exact State.passChecks_step _ hs
  have hhigher : s.higherWaits x.config.priority = true ↔ higher := by
    rw [State.higherWaits_iff]
    refine or_congr Iff.rfl ⟨fun ⟨q, k, hq, hk, hp⟩ => ⟨k, hk, hp ▸ hq⟩, fun ⟨k, hk, hp⟩ => ⟨_, k, hp, hk, rfl⟩⟩
  have suspended (hc : x.config.resume = .continue) : s.suspendPass l = s.setLane l { x with run := .suspended } := by
    obtain ⟨-, e⟩ | ⟨hr, -⟩ := s.suspendPass_cases l
    · exact e
    · exact absurd (hc.symm.trans hr) (by decide)
  have begun (hc : x.config.resume = .restart) (hw : x.write = some b) : s.suspendPass l = restarted := by
    obtain ⟨hr, -⟩ | ⟨-, ⟨c, hwc, e⟩ | ⟨hn, -⟩⟩ := s.suspendPass_cases l
    · exact absurd (hc.symm.trans hr) (by decide)
    · obtain rfl : c = b := Option.some.inj (hwc.symm.trans hw)
      rw [e]
      rfl
    · exact absurd (hn.symm.trans hw) (by simp)
  have pass_of (hdir : ∀ k, s.directWaits k = false) (hwm : waits m) (hlt : x.config.priority < y.config.priority)
      (hhigh : ∀ k, waits k → (s.lane k).config.priority ≤ y.config.priority)
      (hmin : ∀ k, waits k → (s.lane k).config.priority = y.config.priority →
        turn 8 (look s.lanePtr y.config.priority) m ≤ turn 8 (look s.lanePtr y.config.priority) k)
      (hsm : y.program[y.position]? = some sm) (hseg : sm.segment ≠ none) {t : State} (hx : t.exec = s.exec)
      (hq : t.direct = s.direct) (hdp : t.directPtr = s.directPtr) (hlp : t.lanePtr = s.lanePtr)
      (hother : ∀ k, k ≠ l → t.lane k = s.lane k) (hself : (t.lane l).config.priority = x.config.priority) :
      t.passGrant = handed t := by
    have hm : t.lane m = y := hother m fun e => absurd hlt (by simp [y, x, e])
    have hdirect (k : HostId) : t.directWaits k = false := by
      rw [← hdir k]
      simp only [State.directWaits, State.directQueue, hq, hx]
    have waits_of {q : Fin 4} {k : LaneId} (hk : t.LaneAt q k) (hle : y.config.priority ≤ q) :
        waits k ∧ (s.lane k).config.priority = q := by
      obtain ⟨hrun, hprio⟩ := hk
      by_cases e : k = l
      · subst e
        rw [← hprio, hself] at hle
        exact absurd hlt (not_lt.mpr hle)
      · rw [hother k e] at hrun hprio
        exact ⟨hrun, hprio⟩
    have hlane : t.laneCandidate [3, 2, 1, 0] = some m := by
      refine State.laneCandidate_eq_some (p := y.config.priority) ⟨by rw [hm]; exact hwm, by rw [hm]⟩ (fun q k hlt' hk => ?_)
        fun k hk => ?_
      · obtain ⟨hw, hp⟩ := waits_of hk hlt'.le
        exact absurd hlt' (not_lt.mpr (hp ▸ hhigh k hw))
      · obtain ⟨hw, hp⟩ := waits_of hk le_rfl
        rw [hlp]
        exact hmin k hw hp
    rw [State.passGrant_of_lane (State.directPick_eq_none_iff.mpr hdirect) hlane,
      State.grantLane_of_step (st := sm) (by rw [hm]; exact hsm) hseg, hm, hlp]
  refine ⟨fun hn => ?_, fun hn hp => ?_, fun hn hp => ?_, fun hn hs hno hheld => ?_, fun hn hs hx hw hq hmin => ?_,
    fun hn hs hdir hwm hlt hhigh hmin hsm hseg => ?_⟩
  · refine State.boundary_of_ended ?_
    rw [State.stepsLeft_of_none hn]
    rfl
  · have hleft : (s.setLane l { x with position := x.position + 1, pending := false }).stepsLeft l
        = x.program.drop (x.position + 1) := by
      rw [State.stepsLeft, State.lane_setLane_self]
    rw [State.boundary, State.boundary, State.stepsLeft_of_some hn, State.passChecks_break_passed _ hp, hleft]
  · refine State.boundary_of_ended ?_
    rw [State.stepsLeft_of_some hn]
    exact State.passChecks_break_held _ hp
  · rw [step hn hs, if_neg fun e => hno (hhigher.mp e)]
    exact State.execute_of_fresh hheld
  · have hpick := State.directPick_eq_some hw hmin
    have hb : s.boundary l = (s.suspendPass l).passGrant := by
      rw [step hn hs, if_pos (hhigher.mpr (.inl ⟨h, hw⟩))]
    exact ⟨fun hc => by rw [hb, suspended hc]; exact State.passGrant_of_direct hpick hq,
      fun hc hwr => by rw [hb, begun hc hwr]; exact State.passGrant_of_direct hpick hq⟩
  · have hb : s.boundary l = (s.suspendPass l).passGrant := by
      rw [step hn hs, if_pos (hhigher.mpr (.inr ⟨m, hwm, hlt⟩))]
    refine ⟨fun hc => ?_, fun hc hwr => ?_⟩
    · rw [hb, suspended hc]
      exact pass_of hdir hwm hlt hhigh hmin hsm hseg rfl rfl rfl rfl (fun k hk => State.lane_setLane_ne s _ hk.symm)
        (by rw [State.lane_setLane_self])
    · rw [hb, begun hc hwr]
      exact pass_of hdir hwm hlt hhigh hmin hsm hseg rfl rfl rfl rfl (fun k hk => State.lane_setLane_ne s _ hk.symm)
        (congrArg (·.config.priority) (State.lane_setLane_self ..))

end Sys2Proof.Machine
end


section
/-! SUPPORT. The end of a lane's step by its error policy and in STOPPING, and what a counted result does to its station. -/

set_option Elab.async false

namespace Sys2Proof.Machine

/-! ### The end of a lane's step -/

section
variable {s : State} {l : LaneId} {e : Execution} {o : StepOutcome} {data : List Byte}

theorem State.writeRecord_lane (m : LaneId) : (s.writeRecord l e o data).lane m = s.lane m := by
  obtain ⟨r, b, -, -, h⟩ | h := s.writeRecord_cases l e o data <;> rw [h]
  rfl

theorem State.writeRecord_exec : (s.writeRecord l e o data).exec = s.exec := by
  obtain ⟨r, b, -, -, h⟩ | h := s.writeRecord_cases l e o data <;> rw [h]
  rfl

theorem State.writeRecord_port (k : HostId) : (s.writeRecord l e o data).port k = s.port k := by
  obtain ⟨r, b, -, -, h⟩ | h := s.writeRecord_cases l e o data <;> rw [h]
  rfl

theorem State.queueOwner_setLane {x : Lane} (hx : x.owner = (s.lane l).owner) (b : EventBody) :
    (s.setLane l x).queueOwner l b = (s.queueOwner l b).setLane l x := by
  obtain ⟨t, ht⟩ : ∃ t, s.queueOwner l b = { s with mail := t } := ⟨_, s.queueOwner_eq l b⟩
  have hown : ((s.setLane l x).lane l).owner = (s.lane l).owner := by rw [State.lane_setLane_self]; exact hx
  rw [State.queueOwner_of_same (s := s) (u := s.setLane l x) rfl rfl rfl hown b, ht]
  rfl

theorem State.queueOwner_lane (m : LaneId) (b : EventBody) : (s.queueOwner l b).lane m = s.lane m := by
  rw [State.queueOwner_eq]
  rfl

/-- A failed step under SKIP: the error is counted and announced, and the lane comes to its boundary (R113). -/
theorem State.skipStep_eq : s.skipStep l e o = ((s.setLane l { s.lane l with
    errorCount := (s.lane l).errorCount + 1
    position := (s.lane l).position + 1 }).queueOwner l (.stepError l (s.lane l).position o e.attempts)).boundary l := by
  unfold State.skipStep State.advance
  dsimp only
  rw [State.queueOwner_lane, State.lane_setLane_self, State.queueOwner_setLane, State.queueOwner_setLane,
    State.setLane_setLane]
  · rfl
  · rfl

/-- A failed step under HALT with nothing held through a retry wait (R114). -/
theorem State.haltPass_of_free (hh : (s.lane l).held = none) : s.haltPass l o = (s.setLane l { s.lane l with
    run := .halted
    errorCount := (s.lane l).errorCount + 1
    write := none
    waiting := false
    retryLeft := 0
    pending := false
    disarmAtEnd := false }).queueOwner l (.laneHalted l (s.lane l).position o) := by
  unfold State.haltPass
  dsimp only
  rw [State.abandonPass_eq, State.settleHeld_of_none (by rw [State.lane_setLane_self]; exact hh),
    State.setLane_setLane, State.lane_setLane_self, State.lane_setLane_self, State.setLane_setLane, ← hh]

section
variable (hr : (s.lane l).run ≠ .stopping)
include hr

theorem State.laneStepEnd_done : s.laneStepEnd l e .done data = ((s.writeRecord l e .done data).setLane l { s.lane l with
    position := (s.lane l).position + 1 }).boundary l := by
  obtain ⟨h, -⟩ | ⟨-, -, h⟩ | ⟨-, h, -⟩ := s.laneStepEnd_cases l e .done data
  · exact absurd (State.writeRecord_lane (s := s) l ▸ h) hr
  · rw [h, State.advance, State.writeRecord_lane]
  · exact absurd rfl h

section
variable (ho : o ≠ .done)
include ho

theorem State.laneStepEnd_skip (hp : (s.lane l).config.onError = .skip) : s.laneStepEnd l e o data
    = (((s.writeRecord l e o data).setLane l { s.lane l with
        errorCount := (s.lane l).errorCount + 1
        position := (s.lane l).position + 1 }).queueOwner l (.stepError l (s.lane l).position o e.attempts)).boundary l := by
  obtain ⟨h, -⟩ | ⟨-, h, -⟩ | ⟨-, -, ⟨-, h⟩ | ⟨h, -⟩⟩ := s.laneStepEnd_cases l e o data
  · exact absurd (State.writeRecord_lane (s := s) l ▸ h) hr
  · exact absurd h ho
  · rw [h, State.skipStep_eq, State.writeRecord_lane]
  · rw [State.writeRecord_lane, hp] at h
    cases h

theorem State.laneStepEnd_halt (hp : (s.lane l).config.onError = .halt) (hh : (s.lane l).held = none) :
    s.laneStepEnd l e o data = ((s.writeRecord l e o data).setLane l { s.lane l with
      run := .halted
      errorCount := (s.lane l).errorCount + 1
      write := none
      waiting := false
      retryLeft := 0
      pending := false
      disarmAtEnd := false }).queueOwner l (.laneHalted l (s.lane l).position o) := by
  obtain ⟨h, -⟩ | ⟨-, h, -⟩ | ⟨-, -, ⟨h, -⟩ | ⟨-, h⟩⟩ := s.laneStepEnd_cases l e o data
  · exact absurd (State.writeRecord_lane (s := s) l ▸ h) hr
  · exact absurd h ho
  · rw [State.writeRecord_lane, hp] at h
    cases h
  · rw [h, State.haltPass_of_free (by rw [State.writeRecord_lane]; exact hh), State.writeRecord_lane]

end

end

section
variable (hr : (s.lane l).run = .stopping) (he : s.exec = none) (hh : (s.lane l).held = none)
include hr he hh

omit he hh in
theorem State.laneStepEnd_of_stopping : s.laneStepEnd l e o data = (s.writeRecord l e o data).leaveStopping l := by
  obtain ⟨-, h⟩ | ⟨h, -⟩ | ⟨h, -⟩ := s.laneStepEnd_cases l e o data
  · exact h
  · exact absurd (State.writeRecord_lane (s := s) l ▸ hr) h
  · exact absurd (State.writeRecord_lane (s := s) l ▸ hr) h

/-- A lane in STOPPING whose step ends goes IDLE and answers its LANE_STOP (R36). -/
theorem State.laneStepEnd_answered {h : HostId} {tag : Byte} (ho : (s.lane l).owner = some h)
    (hb : (s.port h).state = .busy ⟨tag, .laneStop l⟩) (hu : ∀ k, k ≠ h → (s.port k).waitsFor ≠ some (.laneStop l)) :
    s.laneStepEnd l e o data = (((s.writeRecord l e o data).setLane l { s.lane l with
      run := .idle
      position := 0
      write := none
      waiting := false
      retryLeft := 0
      pending := false
      disarmAtEnd := false }).queueEvent h (.passAbandoned l (s.lane l).position)).setPort h { s.port h with
        state := .ready ⟨.ok, tag, .stopped .running⟩
        expiry := 20000 } := by
  have hlane : (s.writeRecord l e o data).lane l = s.lane l := State.writeRecord_lane l
  have hport (k : HostId) : (s.writeRecord l e o data).port k = s.port k := State.writeRecord_port k
  rw [State.laneStepEnd_of_stopping hr, State.leaveStopping_answered (h := h) (tag := tag)
    (State.writeRecord_exec.trans he) (hlane ▸ ho) (hlane ▸ hh) (by rw [hport]; exact hb)
    (fun k hk => by rw [hport]; exact hu k hk), hlane, hport, Lane.stopped_eq hh]

/-- A lane in STOPPING that nobody owns goes IDLE with no event (R41). -/
theorem State.laneStepEnd_unowned (ho : (s.lane l).owner = none) (hu : ∀ k, (s.port k).waitsFor ≠ some (.laneStop l)) :
    s.laneStepEnd l e o data = (s.writeRecord l e o data).setLane l { s.lane l with
      run := .idle
      position := 0
      write := none
      waiting := false
      retryLeft := 0
      pending := false
      disarmAtEnd := false } := by
  have hlane : (s.writeRecord l e o data).lane l = s.lane l := State.writeRecord_lane l
  have hport (k : HostId) : (s.writeRecord l e o data).port k = s.port k := State.writeRecord_port k
  rw [State.laneStepEnd_of_stopping hr, State.leaveStopping_unowned (State.writeRecord_exec.trans he) (hlane ▸ ho)
    (hlane ▸ hh) (fun k => by rw [hport]; exact hu k), hlane, Lane.stopped_eq hh]

end

end

/-- A record is written where the statements write it (R112). -/
theorem State.writeRecord_eq {s u : State} {l : LaneId} (e : Execution) (o : StepOutcome) (data : List Byte)
    (hw : (u.lane l).write = (s.lane l).write) (hb : ∀ b, u.bank l b = s.bank l b) : u.writeRecord l e o data
      = match e.step.into, (s.lane l).write with
        | some r, some b => u.setBank l b { s.bank l b with
            records := put (s.bank l b).records r ⟨some o, e.attempts, data⟩ }
        | _, _ => u := by
  unfold State.writeRecord
  rw [hw]
  cases e.step.into with
  | none => rfl
  | some r =>
    cases (s.lane l).write with
    | none => rfl
    | some b => exact congrArg (fun k : Bank => u.setBank l b { k with records := put k.records r ⟨some o, e.attempts, data⟩ }) (hb b)

/-- A direct request completes at the head of its queue (R76). -/
theorem State.directDone_of_head {s : State} {h : HostId} {r : DirectRequest} {rest : List DirectRequest}
    (hq : s.directQueue h = r :: rest) (e : Execution) (o : StepOutcome) (data : List Byte) : s.directDone h e o data
      = (s.setDirectQueue h rest).queueEvent h
        (.directDone r.hostTag o e.attempts (if e.step.asks ≠ 0 ∧ o = .done then some data else none)) := by
  unfold State.directDone
  rw [hq]

/-! ### Counted results -/

/-- The toggle of the station that a step addresses, settled (R98). -/
def Execution.settled (e : Execution) (z : Station) : Bool :=
  if e.step.toggles.isSome && e.fullySent then !z.toggle else z.toggle

/-- The entry of a station after a counted result (R97). -/
def State.entry (s : State) (seg : SegmentId) (n : StationId) (valid : Bool) : Station :=
  (s.station seg n).after s.settings.silentThreshold valid

/-- A counted result in its gap: the executor holds no step, and the station has its entry and its settled toggle (R87, R97,
R98). -/
def State.gapped (s : State) (e : Execution) (seg : SegmentId) (n : StationId) (valid : Bool) : State :=
  { s with exec := none, link := .gap, phaseLeft := 4 * s.settings.lineRate.bitTime }.setStation seg n
    { s.entry seg n valid with toggle := e.settled (s.station seg n) }

/-- What a counted result leaves before its outcome goes to the holder: a station that comes back or falls silent is
announced (R97). -/
def State.counted (s : State) (e : Execution) (seg : SegmentId) (n : StationId) (valid : Bool) : State :=
  if (s.station seg n).silent && !(s.entry seg n valid).silent then (s.gapped e seg n valid).queueAll (.stationBack seg n)
  else if !(s.station seg n).silent && (s.entry seg n valid).silent then
    (s.gapped e seg n valid).queueAll (.stationSilent seg n)
  else s.gapped e seg n valid

section
variable {s : State} {e : Execution} {seg : SegmentId} {n : StationId}

theorem State.setStation_station (s : State) (g : SegmentId) (m : StationId) : s.setStation g m (s.station g m) = s := by
  simp [State.setStation, State.station]

theorem State.setStation_setStation (s : State) (g : SegmentId) (m : StationId) (x y : Station) :
    (s.setStation g m x).setStation g m y = s.setStation g m y := by
  simp [State.setStation]

theorem State.settleToggle_station (h : e.step.station = some (seg, n)) : s.settleToggle e.step e.fullySent
    = s.setStation seg n { s.station seg n with toggle := e.settled (s.station seg n) } := by
  unfold State.settleToggle Execution.settled
  cases hs : e.step with
  | broadcast | brk => simp [hs, Step.station] at h
  | read g m idx c into =>
    obtain ⟨rfl, rfl⟩ : g = seg ∧ m = n := by simpa [hs, Step.station] using h
    exact (s.setStation_station g m).symm
  | write g m idx d into | copy g m idx y r into =>
    obtain ⟨rfl, rfl⟩ : g = seg ∧ m = n := by simpa [hs, Step.station] using h
    cases e.fullySent
    · exact (s.setStation_station g m).symm
    · rfl

theorem Station.after_toggle (z : Station) (threshold : Nat) (valid : Bool) : (z.after threshold valid).toggle = z.toggle := by
  unfold Station.after
  split <;> rfl

theorem State.queueAll_station (b : EventBody) (g : SegmentId) (m : StationId) : (s.queueAll b).station g m = s.station g m := by
  rw [State.queueAll_eq]
  rfl

theorem State.queueAll_setStation (b : EventBody) (x : Station) :
    (s.queueAll b).setStation seg n x = (s.setStation seg n x).queueAll b := by
  obtain ⟨t, ht⟩ : ∃ t, s.queueAll b = { s with mail := t } := ⟨_, s.queueAll_eq b⟩
  rw [State.queueAll_of_same (s := s) (u := s.setStation seg n x) rfl rfl rfl, ht]
  rfl

theorem State.queueAll_drop (b : EventBody) : { s.queueAll b with exec := none } = { s with exec := none }.queueAll b := by
  obtain ⟨t, ht⟩ : ∃ t, s.queueAll b = { s with mail := t } := ⟨_, s.queueAll_eq b⟩
  rw [State.queueAll_of_same (s := s) (u := { s with exec := none }) rfl rfl rfl, ht]

theorem State.settled_of_entry (h : e.step.station = some (seg, n)) (valid : Bool) :
    { s.enterGap.setStation seg n (s.entry seg n valid) with exec := none }.settleToggle e.step e.fullySent
      = s.gapped e seg n valid := by
  have hy : { s.enterGap.setStation seg n (s.entry seg n valid) with exec := none }.station seg n = s.entry seg n valid :=
    State.station_setStation_self ..
  have hflip : e.settled (s.entry seg n valid) = e.settled (s.station seg n) := by
    unfold Execution.settled State.entry
    rw [Station.after_toggle]
  rw [State.settleToggle_station h, hy, hflip]
  exact State.setStation_setStation { s.enterGap with exec := none } seg n _ _

/-- A step ends on the station table as a counted result leaves it (R87, R98, R111). -/
theorem State.settled_of_counted (h : e.step.station = some (seg, n)) (valid : Bool) :
    { s.enterGap.updateStation seg n valid with exec := none }.settleToggle e.step e.fullySent = s.counted e seg n valid := by
  have told (b : EventBody) : { (s.enterGap.setStation seg n (s.entry seg n valid)).queueAll b with
      exec := none }.settleToggle e.step e.fullySent = (s.gapped e seg n valid).queueAll b := by
    rw [State.queueAll_drop, State.settleToggle_station h, State.queueAll_station, State.queueAll_setStation,
      ← State.settleToggle_station h, State.settled_of_entry h]
  have hcases := s.enterGap.updateStation_cases seg n valid
  unfold State.counted
  obtain ⟨hs, hs', e'⟩ | ⟨hs, hs', e'⟩ | ⟨hs, e'⟩ := hcases <;> rw [e']
  · have hs : (s.station seg n).silent = true := hs
    have hs' : (s.entry seg n valid).silent = false := hs'
    rw [hs, hs']
    exact told _
  · have hs : (s.station seg n).silent = false := hs
    have hs' : (s.entry seg n valid).silent = true := hs'
    rw [hs, hs']
    exact told _
  · have hs : (s.station seg n).silent = (s.entry seg n valid).silent := hs
    rw [hs, if_neg (by simp), if_neg (by simp)]
    exact State.settled_of_entry h valid

theorem State.updateStation_station (valid : Bool) :
    (s.enterGap.updateStation seg n valid).station seg n = s.entry seg n valid := by
  have hcases := s.enterGap.updateStation_cases seg n valid
  obtain ⟨-, -, e'⟩ | ⟨-, -, e'⟩ | ⟨-, e'⟩ := hcases <;> rw [e']
  · rw [State.queueAll_station, State.station_setStation_self]
    rfl
  · rw [State.queueAll_station, State.station_setStation_self]
    rfl
  · rw [State.station_setStation_self]
    rfl

theorem State.updateStation_lane (valid : Bool) (l : LaneId) :
    (s.enterGap.updateStation seg n valid).lane l = s.lane l := by
  have hcases := s.enterGap.updateStation_cases seg n valid
  obtain ⟨-, -, e'⟩ | ⟨-, -, e'⟩ | ⟨-, e'⟩ := hcases <;> rw [e']
  · rw [State.queueAll_eq]
    rfl
  · rw [State.queueAll_eq]
    rfl
  · rfl

/-- A counted result goes to the executor with what it did to its station (R97, R105). -/
theorem State.attemptResult_eq (h : e.step.station = some (seg, n)) (r : AttemptResult) : s.attemptResult e r
    = (s.enterGap.updateStation seg n r.valid).countResult e r
      (!(s.station seg n).silent && (s.entry seg n r.valid).silent) := by
  rw [← State.updateStation_station (s := s)]
  unfold State.attemptResult
  dsimp only
  rw [h]
  rfl

section
variable {f : Execution} (h : e.step.station = some (seg, n)) (hs : f.step = e.step) (hf : f.fullySent = e.fullySent)
include h hs hf

/-- A counted result that ends its step ends it in the gap, for its holder (R105, R106, R111). -/
theorem State.stepEnd_counted_lane {l : LaneId} (hh : f.holder = .lane l) (valid : Bool) (o : StepOutcome)
    (data : List Byte) : (s.enterGap.updateStation seg n valid).stepEnd f o data
      = (s.counted e seg n valid).laneStepEnd l f o data := by
  unfold State.stepEnd
  dsimp only
  rw [hs, hf, State.settled_of_counted h, hh]

theorem State.stepEnd_counted_direct {k : HostId} (hh : f.holder = .direct k) (valid : Bool) (o : StepOutcome)
    (data : List Byte) : (s.enterGap.updateStation seg n valid).stepEnd f o data
      = (s.counted e seg n valid).directDone k f o data := by
  unfold State.stepEnd
  dsimp only
  rw [hs, hf, State.settled_of_counted h, hh]

theorem State.stepEnd_counted_neither (hh : f.holder = .discarded ∨ f.holder = .probe) (valid : Bool) (o : StepOutcome)
    (data : List Byte) : (s.enterGap.updateStation seg n valid).stepEnd f o data = s.counted e seg n valid := by
  unfold State.stepEnd
  dsimp only
  rw [hs, hf, State.settled_of_counted h]
  obtain hh | hh := hh <;> rw [hh]

end

/-! What a counted result leaves alone. -/

variable (s e seg n) (valid : Bool)

theorem State.counted_eq : s.counted e seg n valid
    = { s.gapped e seg n valid with mail := (s.counted e seg n valid).mail } := by
  unfold State.counted
  split
  · exact State.queueAll_eq _ _
  · split
    · exact State.queueAll_eq _ _
    · rfl

theorem State.counted_lane (l : LaneId) : (s.counted e seg n valid).lane l = s.lane l := by
  rw [State.counted_eq]
  rfl

theorem State.counted_bank (l : LaneId) (b : BankId) : (s.counted e seg n valid).bank l b = s.bank l b := by
  rw [State.counted_eq]
  rfl

theorem State.counted_port (k : HostId) : (s.counted e seg n valid).port k = s.port k := by
  rw [State.counted_eq]
  rfl

theorem State.counted_directQueue (k : HostId) : (s.counted e seg n valid).directQueue k = s.directQueue k := by
  rw [State.counted_eq]
  rfl

theorem State.counted_exec : (s.counted e seg n valid).exec = none := by
  rw [State.counted_eq]
  rfl

end

/-! ### Commands that bring a result -/

theorem exec_replyTimeout {s : State} {e : Execution} (hl : s.link = .awaitReply false) (he : s.exec = some e) :
    Machine.exec .replyTimeout s = .next (s.attemptResult e .noReply) := by
  show execReplyTimeout s = _
  simp only [execReplyTimeout, hl, he]

theorem exec_replyEnd {s : State} {e : Execution} {reply : ReplyWire} (he : s.exec = some e)
    (hl : s.link.endsReply reply = true) :
    Machine.exec (.replyEnd reply) s = .next (s.attemptResult e (judgeReply e.step.asks reply)) := by
  show execReplyEnd reply s = _
  simp only [execReplyEnd, he, hl, if_true]

end Sys2Proof.Machine
end


section
/-! SUPPORT. The statements about counted results: retry wait, ACCEPT, and the failed step. -/

set_option Elab.async false

namespace Sys2Proof.Machine

/-! ### Counted results by kind -/

theorem LinkState.endsReply_of {k : LinkState} {reply : ReplyWire} {m : Bool}
    (h : (k = .receiving ∧ reply ≠ .malformedMark) ∨ (k = .awaitReply m ∧ reply = .malformedMark)) :
    k.endsReply reply = true := by
  obtain ⟨rfl, hr⟩ | ⟨rfl, rfl⟩ := h
  · cases reply with
    | malformedMark => exact absurd rfl hr
    | bytes => rfl
  · rfl

section
variable {s : State} {e : Execution} {r : AttemptResult} {silenced : Bool}

theorem State.countResult_final (h : r.final = true) :
    s.countResult e r silenced = s.stepEnd { e with attempts := e.attempts + 1 } r.outcome
      (keptData { e with attempts := e.attempts + 1 } r) := if_pos h

theorem State.countResult_silenced (h : r.final = false) :
    s.countResult e r true = s.stepEnd { e with attempts := e.attempts + 1 } .stationSilent [] :=
  (if_neg (by simp [h])).trans (if_pos rfl)

theorem State.countResult_last (h : r.final = false)
    (hl : e.limit ≤ e.attempts + 1 ∨ s.lastAttempt { e with attempts := e.attempts + 1 } = true) :
    s.countResult e r false = s.stepEnd { e with attempts := e.attempts + 1 } r.outcome [] :=
  (if_neg (by simp [h])).trans ((if_neg (by simp)).trans (if_pos hl))

theorem State.countResult_retried (h : r.final = false) (hlim : e.attempts + 1 < e.limit)
    (hl : s.lastAttempt { e with attempts := e.attempts + 1 } = false) :
    s.countResult e r false = s.retryWait { e with attempts := e.attempts + 1 } :=
  (if_neg (by simp [h])).trans ((if_neg (by simp)).trans (if_neg (by simp [hl]; exact hlim)))

end

theorem State.entry_valid (s : State) (seg : SegmentId) (n : StationId) :
    s.entry seg n true = { s.station seg n with silent := false, failures := 0 } := rfl

/-- A failure below the threshold (R97). -/
theorem State.entry_below {s : State} {seg : SegmentId} {n : StationId}
    (hf : (s.station seg n).failures + 1 < s.settings.silentThreshold) (ht : s.settings.silentThreshold ≤ 15) :
    s.entry seg n false = { s.station seg n with failures := (s.station seg n).failures + 1 } := by
  have hmin : min ((s.station seg n).failures + 1) Config.failureMax = (s.station seg n).failures + 1 :=
    Nat.min_eq_left (by show _ ≤ 15; omega)
  have hsil : ((s.station seg n).silent || decide (s.settings.silentThreshold ≤ (s.station seg n).failures + 1))
      = (s.station seg n).silent := by
    rw [decide_eq_false (Nat.not_le.mpr hf), Bool.or_false]
  unfold State.entry Station.after
  rw [if_neg (by decide)]
  dsimp only
  rw [hmin, hsil]

/-! ### Retry wait -/

/-- Settles O54: the entry below the threshold, then the holder's retry wait. -/
theorem countedFailureEntersRetryWait : Obligations.CountedFailureEntersRetryWait := by
  intro s e reply l h r rest seg n m he hst hz hlim z result failures gap waits headWaits
  -- a counted failure that neither silences the station nor ends the step
  have retried {res : AttemptResult} {k : Nat} (hres : res.final = false)
      (hentry : s.entry seg n res.valid = { z with failures := k }) :
      (e.holder = .lane l → (s.lane l).run = .running → s.attemptResult e res = waits k)
        ∧ (e.holder = .direct h → s.directQueue h = r :: rest → s.attemptResult e res = headWaits k) := by
    have hsame : (s.station seg n).silent = (s.entry seg n res.valid).silent := by rw [hentry]
    have hu : s.enterGap.updateStation seg n res.valid = s.enterGap.setStation seg n { z with failures := k } := by
      have hcases := s.enterGap.updateStation_cases seg n res.valid
      obtain ⟨h1, h2, -⟩ | ⟨h1, h2, -⟩ | ⟨-, e'⟩ := hcases
      · exact absurd (h1.symm.trans (hsame.trans h2)) (by decide)
      · exact absurd (h1.symm.trans (hsame.trans h2)) (by decide)
      · rw [← hentry]
        exact e'
    have hatt (hl : (s.enterGap.setStation seg n { z with failures := k }).lastAttempt
        { e with attempts := e.attempts + 1 } = false) : s.attemptResult e res
          = (s.enterGap.setStation seg n { z with failures := k }).retryWait { e with attempts := e.attempts + 1 } := by
      rw [State.attemptResult_eq hst, ← hsame, Bool.not_and_self, hu]
      exact State.countResult_retried hres hlim hl
    refine ⟨fun hh hr => ?_, fun hh hq => ?_⟩
    · refine (hatt ?_).trans ?_
      · simp only [State.lastAttempt, hh, State.lane_setStation]
        rw [show (s.enterGap.lane l).run = .running from hr]
        decide
      · simp only [State.retryWait, hh]
        rfl
    · refine (hatt ?_).trans ?_
      · simp only [State.lastAttempt, hh]
      · have hq' : { s.enterGap.setStation seg n { z with failures := k } with exec := none }.directQueue h = r :: rest := hq
        simp only [State.retryWait, hh, State.keepAtHead, hq']
        rfl
  refine ⟨fun hl hf ht => ?_, fun hl href hacc hf ht => ?_⟩
  · obtain ⟨hlane, hdirect⟩ := retried (res := .noReply) rfl (State.entry_below hf ht)
    exact ⟨fun hh hr => (exec_replyTimeout hl he).trans (congrArg _ (hlane hh hr)),
      fun hh hq => (exec_replyTimeout hl he).trans (congrArg _ (hdirect hh hq))⟩
  · have hend := exec_replyEnd he (LinkState.endsReply_of hl)
    have hentry : s.entry seg n result.valid = { z with failures := failures } := by
      have fails (hv : result.valid = false) (hd : result ≠ .defer) :
          s.entry seg n result.valid = { z with failures := failures } := by
        have hk : failures = z.failures + 1 := if_neg hd
        rw [hk] at hf ⊢
        rw [hv]
        exact State.entry_below hf ht
      cases hres : result with
      | accept d => exact absurd hres (hacc d)
      | refuse => exact absurd hres href
      | defer =>
        have hk : failures = 0 := if_pos hres
        rw [hk]
        refine (s.entry_valid seg n).trans ?_
        rw [← hz]
      | _ => exact hres ▸ fails (by rw [hres]; rfl) (by rw [hres]; exact fun h => nomatch h)
    have hfinal : result.final = false := by
      cases hres : result with
      | accept d => exact absurd hres (hacc d)
      | refuse => exact absurd hres href
      | _ => rfl
    obtain ⟨hlane, hdirect⟩ := retried hfinal hentry
    exact ⟨fun hh hr => hend.trans (congrArg _ (hlane hh hr)), fun hh hq => hend.trans (congrArg _ (hdirect hh hq))⟩

/-! ### ACCEPT -/

/-- An ACCEPT returns as many bytes as its frame asked for (R84). -/
theorem length_of_judgeReply {n : Nat} {reply : ReplyWire} {data : List Byte} (h : judgeReply n reply = .accept data) :
    data.length = n := by
  have check {status : Byte} {rest : List Byte} {k : Nat} {res : AttemptResult} (hc : checkReply status rest k res = .accept data) :
      res = .accept data := by
    simp only [checkReply] at hc
    split at hc
    · exact hc
    · cases hc
  cases reply with
  | malformedMark => cases h
  | bytes status rest =>
    simp only [judgeReply] at h
    split at h
    · have hd := check h
      simp only [AttemptResult.accept.injEq] at hd
      rw [← hd]
      simp
    · split at h
      · cases check h
      · split at h
        · cases check h
        · cases h

theorem endsReply_of_accept {s : State} {n : Nat} {reply : ReplyWire} {data : List Byte} (hl : s.link = .receiving)
    (h : judgeReply n reply = .accept data) : s.link.endsReply reply = true := by
  refine LinkState.endsReply_of (m := true) (.inl ⟨hl, fun e => ?_⟩)
  rw [e] at h
  cases h

/-- The data that a step ended by ACCEPT keeps: what a READ received, what a COPY sent (R105, R111). -/
theorem keptData_of_accept {e f : Execution} {reply : ReplyWire} {data : List Byte} (hs : f.step = e.step)
    (hc : f.captured = e.captured) {seg : SegmentId} {n : StationId} (hst : e.step.station = some (seg, n))
    (h : judgeReply e.step.asks reply = .accept data) :
    keptData f (.accept data) = (match e.step with
      | .copy .. => e.captured.data
      | _ => data) := by
  have hlen := length_of_judgeReply h
  unfold keptData
  rw [hs, hc]
  cases he : e.step with
  | write => exact (List.eq_nil_of_length_eq_zero (by rw [hlen, he]; rfl)).symm
  | broadcast | brk => simp [he, Step.station] at hst
  | _ => rfl

/-- Settles O55: the station, the toggle, the record, then the holder. -/
theorem acceptedReplyEndsTheStep : Obligations.AcceptedReplyEndsTheStep := by
  intro s e reply data l h tag r rest seg n he hl hst hjudge x z got kept u noted stopped
  have hkept : keptData { e with attempts := e.attempts + 1 } (.accept data) = kept :=
    keptData_of_accept rfl rfl hst hjudge
  have hgap : s.gapped e seg n true = u := rfl
  have ends : got = .next ((s.enterGap.updateStation seg n true).stepEnd { e with attempts := e.attempts + 1 } .done kept) := by
    refine (exec_replyEnd he (endsReply_of_accept hl hjudge)).trans (congrArg _ ?_)
    rw [hjudge, State.attemptResult_eq hst, State.countResult_final rfl, hkept]
    rfl
  have present (hz : z.silent = false) : s.counted e seg n true = u := by
    have hz : (s.station seg n).silent = false := hz
    unfold State.counted
    rw [hz, if_neg (by simp), if_neg (by simp [State.entry_valid]), hgap]
  have back (hz : z.silent = true) : s.counted e seg n true = u.queueAll (.stationBack seg n) := by
    have hz : (s.station seg n).silent = true := hz
    unfold State.counted
    rw [hz, if_pos (by simp [State.entry_valid]), hgap]
  have hnoted : u.writeRecord l { e with attempts := e.attempts + 1 } .done kept = noted :=
    State.writeRecord_eq (s := s) _ _ _ rfl (fun _ => rfl)
  refine ⟨fun hz hh hr => ?_, fun hz hh hr hheld ho hb hu => ?_, fun hz hh hr hheld ho hu => ?_, fun hz hh => ?_,
    fun hz hh hq => ?_, fun hz hh => ?_⟩
  · have hr : (u.lane l).run ≠ .stopping := by rw [show (u.lane l).run = .running from hr]; decide
    rw [ends, State.stepEnd_counted_lane (f := { e with attempts := e.attempts + 1 }) hst rfl rfl hh, present hz]
    exact congrArg _ ((State.laneStepEnd_done hr).trans (by rw [hnoted]; rfl))
  · rw [ends, State.stepEnd_counted_lane (f := { e with attempts := e.attempts + 1 }) hst rfl rfl hh, present hz]
    exact congrArg _ ((State.laneStepEnd_answered (s := u) hr rfl hheld ho hb hu).trans (by rw [hnoted]; rfl))
  · rw [ends, State.stepEnd_counted_lane (f := { e with attempts := e.attempts + 1 }) hst rfl rfl hh, present hz]
    exact congrArg _ ((State.laneStepEnd_unowned (s := u) hr rfl hheld ho hu).trans (by rw [hnoted]; rfl))
  · rw [ends, State.stepEnd_counted_neither (f := { e with attempts := e.attempts + 1 }) hst rfl rfl (.inl hh), present hz]
  · have hq' : u.directQueue h = r :: rest := hq
    have hret : (if e.step.asks ≠ 0 ∧ StepOutcome.done = .done then some kept else none)
        = if e.step.asks ≠ 0 then some data else none := by
      by_cases ha : e.step.asks = 0
      · rw [if_neg (fun c => c.1 ha), if_neg (not_not.mpr ha)]
      · rw [if_pos ⟨ha, rfl⟩, if_pos ha]
        refine congrArg some ?_
        simp only [kept]
        cases hs : e.step with
        | read => rfl
        | _ => simp [hs, Step.asks] at ha
    rw [ends, State.stepEnd_counted_direct (f := { e with attempts := e.attempts + 1 }) hst rfl rfl hh, present hz]
    rw [State.directDone_of_head hq', ← hret]
  · rw [ends, State.stepEnd_counted_neither (f := { e with attempts := e.attempts + 1 }) hst rfl rfl (.inr hh), back hz]

/-! ### Failed steps -/

/-- A result that is neither an ACCEPT nor of a step that goes on ends its step with no data (R105, R106, R111). -/
theorem State.countResult_failed {u : State} {e : Execution} {result : AttemptResult} {o : StepOutcome} {silenced : Bool}
    (hacc : ∀ d, result ≠ .accept d)
    (ho : (result = .refuse ∧ o = .refused) ∨ (result ≠ .refuse ∧ silenced = true ∧ o = .stationSilent)
      ∨ (silenced = false ∧ (e.limit ≤ e.attempts + 1 ∨ u.lastAttempt { e with attempts := e.attempts + 1 } = true)
        ∧ (result, o) ∈ [(AttemptResult.defer, StepOutcome.deferred), (.noReply, .noReply), (.checkFail, .checkFail),
          (.frameFault, .frameFault)])) :
    u.countResult e result silenced = u.stepEnd { e with attempts := e.attempts + 1 } o [] := by
  obtain ⟨rfl, rfl⟩ | ⟨hr, rfl, rfl⟩ | ⟨rfl, hl, hm⟩ := ho
  · exact State.countResult_final rfl
  · refine State.countResult_silenced ?_
    cases result with
    | accept d => exact absurd rfl (hacc d)
    | refuse => exact absurd rfl hr
    | _ => rfl
  · have hpair : result.final = false ∧ result.outcome = o := by
      simp only [List.mem_cons, Prod.mk.injEq, List.not_mem_nil, or_false] at hm
      obtain ⟨rfl, rfl⟩ | ⟨rfl, rfl⟩ | ⟨rfl, rfl⟩ | ⟨rfl, rfl⟩ := hm <;> exact ⟨rfl, rfl⟩
    rw [State.countResult_last hpair.1 hl, hpair.2]

theorem AttemptResult.valid_eq {result : AttemptResult} (h : ∀ d, result ≠ .accept d) :
    result.valid = decide (result = .defer ∨ result = .refuse) := by
  cases result with
  | accept d => exact absurd rfl (h d)
  | _ => simp [AttemptResult.valid]

/-- Settles O56: the station, the toggle, the record, then the policy or the holder. -/
theorem failedStepSkipsOrHalts : Obligations.FailedStepSkipsOrHalts := by
  intro s e i reply result o m l h tag r rest seg n x z valid failures silent silenced last he hst hi ho hacc got flip u
    told noted
  have hend : got = .next (s.attemptResult e result) := by
    obtain ⟨rfl, hl, rfl⟩ | ⟨rfl, rfl, hl, hr⟩ | ⟨rfl, rfl, hl, rfl⟩ := hi
    · exact exec_replyTimeout hl he
    · exact exec_replyEnd he (LinkState.endsReply_of (m := m) (.inl ⟨hl, hr⟩))
    · exact exec_replyEnd he (LinkState.endsReply_of (.inr ⟨hl, rfl⟩))
  have hvalid : result.valid = decide valid := AttemptResult.valid_eq hacc
  have hentry : s.entry seg n result.valid = { z with silent := silent, failures := failures } := by
    unfold State.entry Station.after
    rw [hvalid]
    by_cases hv : valid
    · simp only [hv, silent, failures, decide_true, if_true]
      rfl
    · simp only [hv, silent, failures, decide_false, if_false]
      rfl
  have hsil : (s.entry seg n result.valid).silent = silent := by rw [hentry]
  have hgap : s.gapped e seg n result.valid = u := by
    unfold State.gapped
    rw [hentry]
    rfl
  have hback (hz : z.silent = true) : silent = !decide valid := by
    by_cases hv : valid <;> simp [silent, hv, hz]
  have htold : s.counted e seg n result.valid = told := by
    unfold State.counted
    rw [hsil, hgap]
    cases hz : z.silent with
    | false =>
      cases hs : silent with
      | true => simp only [told, silenced, hz, hs]; rfl
      | false => simp only [told, silenced, hz, hs]; rfl
    | true =>
      by_cases hv : valid
      · simp only [told, silenced, hz, hback hz, hv]; rfl
      · simp only [told, silenced, hz, hback hz, hv]; rfl
  have ended : s.attemptResult e result = (s.enterGap.updateStation seg n result.valid).stepEnd
      { e with attempts := e.attempts + 1 } o [] := by
    rw [State.attemptResult_eq hst, hsil]
    refine State.countResult_failed hacc ?_
    obtain ho | ⟨hr, ⟨hz, hs⟩, ho⟩ | ⟨hs, hl, hm⟩ := ho
    · exact .inl ho
    · refine .inr (.inl ⟨hr, ?_, ho⟩)
      rw [show (s.station seg n).silent = false from hz, hs]
      rfl
    · refine .inr (.inr ⟨?_, hl.imp_right ?_, hm⟩)
      · rw [Bool.eq_false_iff, ne_eq, Bool.and_eq_true, Bool.not_eq_true']
        exact hs
      · simp only [State.lastAttempt]
        rintro (⟨hh, hr⟩ | hh | hh)
        · rw [hh]
          dsimp only
          rw [State.updateStation_lane, hr]
          rfl
        · rw [hh]
        · rw [hh]
  have ho' : o ≠ .done := by
    obtain ⟨-, rfl⟩ | ⟨-, -, rfl⟩ | ⟨-, -, hm⟩ := ho
    · decide
    · decide
    · simp only [List.mem_cons, Prod.mk.injEq, List.not_mem_nil, or_false] at hm
      obtain ⟨-, rfl⟩ | ⟨-, rfl⟩ | ⟨-, rfl⟩ | ⟨-, rfl⟩ := hm <;> decide
  have hlane : told.lane l = x := htold ▸ State.counted_lane s e seg n result.valid l
  have hexec : told.exec = none := htold ▸ State.counted_exec s e seg n result.valid
  have hport (k : HostId) : told.port k = s.port k := htold ▸ State.counted_port s e seg n result.valid k
  have hnoted : told.writeRecord l { e with attempts := e.attempts + 1 } o [] = noted :=
    State.writeRecord_eq (s := s) _ _ _ (congrArg Lane.write hlane) fun b => htold ▸ State.counted_bank s e seg n result.valid l b
  refine ⟨fun hh hheld => ⟨fun hr hp => ?_, fun hr hp => ?_, fun hr hown hb hu => ?_, fun hr hown hu => ?_⟩,
    fun hh hq => ?_, fun hh => ?_⟩
  · rw [hend, ended, State.stepEnd_counted_lane (f := { e with attempts := e.attempts + 1 }) hst rfl rfl hh, htold]
    have hgo : (told.lane l).run ≠ .stopping := by rw [hlane, hr]; decide
    refine congrArg _ ((State.laneStepEnd_skip hgo ho' (by rw [hlane]; exact hp)).trans ?_)
    rw [hnoted, hlane]
  · rw [hend, ended, State.stepEnd_counted_lane (f := { e with attempts := e.attempts + 1 }) hst rfl rfl hh, htold]
    have hgo : (told.lane l).run ≠ .stopping := by rw [hlane, hr]; decide
    refine congrArg _ ((State.laneStepEnd_halt hgo ho' (by rw [hlane]; exact hp) (by rw [hlane]; exact hheld)).trans ?_)
    rw [hnoted, hlane]
  · rw [hend, ended, State.stepEnd_counted_lane (f := { e with attempts := e.attempts + 1 }) hst rfl rfl hh, htold]
    refine congrArg _ ((State.laneStepEnd_answered (by rw [hlane]; exact hr) hexec (by rw [hlane]; exact hheld)
      (by rw [hlane]; exact hown) (by rw [hport]; exact hb) fun k hk => by rw [hport]; exact hu k hk).trans ?_)
    rw [hnoted, hlane, hport]
  · rw [hend, ended, State.stepEnd_counted_lane (f := { e with attempts := e.attempts + 1 }) hst rfl rfl hh, htold]
    refine congrArg _ ((State.laneStepEnd_unowned (by rw [hlane]; exact hr) hexec (by rw [hlane]; exact hheld)
      (by rw [hlane]; exact hown) fun k => by rw [hport]; exact hu k).trans ?_)
    rw [hnoted, hlane]
  · rw [hend, ended, State.stepEnd_counted_direct (f := { e with attempts := e.attempts + 1 }) hst rfl rfl hh, htold]
    have hq' : told.directQueue h = r :: rest := by
      rw [← htold, State.counted_directQueue]
      exact hq
    rw [State.directDone_of_head hq', if_neg fun c => ho' c.2]
  · rw [hend, ended, State.stepEnd_counted_neither (f := { e with attempts := e.attempts + 1 }) hst rfl rfl hh, htold]

end Sys2Proof.Machine
end


section
/-! SUPPORT. The statement about line faults: what they withdraw, the recovery watch, the line reset, and OFF. -/

set_option Elab.async false

namespace Sys2Proof.Machine

/-! ### The grant withdrawn -/

section
variable {s : State} {e : Execution}

theorem State.settleToggle_drop (st : Step) (sent : Bool) :
    { s with exec := none }.settleToggle st sent = { s.settleToggle st sent with exec := none } := by
  unfold State.settleToggle
  split
  · cases sent <;> rfl
  · rfl

section
variable (he : s.exec = some e) {l : LaneId} (hl : e.holder = .lane l) (hr : (s.lane l).run = .stopping)
  (hh : (s.lane l).held = none)
include he hl hr hh

/-- The grant of a lane in STOPPING is withdrawn: its toggle is settled, and its LANE_STOP is answered (R37, R65). -/
theorem State.withdraw_answered {h : HostId} {tag : Byte} (ho : (s.lane l).owner = some h)
    (hb : (s.port h).state = .busy ⟨tag, .laneStop l⟩) (hu : ∀ k, k ≠ h → (s.port k).waitsFor ≠ some (.laneStop l)) :
    s.withdraw = (({ s.settleToggle e.step e.fullySent with exec := none }.setLane l { s.lane l with
      run := .idle
      position := 0
      write := none
      waiting := false
      retryLeft := 0
      pending := false
      disarmAtEnd := false }).queueEvent h (.passAbandoned l (s.lane l).position)).setPort h { s.port h with
        state := .ready ⟨.ok, tag, .stopped .running⟩
        expiry := 20000 } := by
  obtain ⟨t, ht⟩ : ∃ t, s.settleToggle e.step e.fullySent = { s with stations := t } := ⟨_, s.settleToggle_eq _ _⟩
  rw [State.withdraw_of_stopping he hl hr, State.settleToggle_drop, ht,
    State.leaveStopping_answered (s := { s with stations := t, exec := none }) rfl ho hh hb hu]
  rw [← Lane.stopped_eq hh]
  rfl

theorem State.withdraw_unowned (ho : (s.lane l).owner = none) (hu : ∀ k, (s.port k).waitsFor ≠ some (.laneStop l)) :
    s.withdraw = { s.settleToggle e.step e.fullySent with exec := none }.setLane l { s.lane l with
      run := .idle
      position := 0
      write := none
      waiting := false
      retryLeft := 0
      pending := false
      disarmAtEnd := false } := by
  obtain ⟨t, ht⟩ : ∃ t, s.settleToggle e.step e.fullySent = { s with stations := t } := ⟨_, s.settleToggle_eq _ _⟩
  rw [State.withdraw_of_stopping he hl hr, State.settleToggle_drop, ht,
    State.leaveStopping_unowned (s := { s with stations := t, exec := none }) rfl ho hh hu]
  rw [← Lane.stopped_eq hh]
  rfl

end

end

/-! ### OFF and FAULTED -/

theorem State.goOff_port (s : State) (k : HostId) :
    s.goOff.port k = match (s.withdraw.port k).state with
      | .busy ⟨tag, .linkOff⟩ => { s.withdraw.port k with state := .ready ⟨.ok, tag, .link .off⟩, expiry := 20000 }
      | _ => s.withdraw.port k := by
  rw [State.goOff_eq, State.readyHeld_port]
  show Port.released (s.withdraw.port k) _ _ = _
  unfold Port.released
  cases (s.withdraw.port k).state with
  | busy q =>
    obtain ⟨tag, kind⟩ := q
    cases kind <;> rfl
  | _ => rfl

/-- The link FAULTED before a waiting LINK_DISABLE acts, by what the withdrawal of the grant leaves (R94). -/
theorem State.faulted_eq (s : State) : s.faulted = { (if s.faultAnnounced then s.withdraw else s.withdraw.queueAll .linkFault) with
    link := .faulted
    phaseLeft := 0
    watchLeft := 10000
    faultAnnounced := true } := by
  rw [State.faulted, State.announceFault_with, s.withdraw_sameLink.faultAnnounced]
  rfl

theorem State.faulted_disableWaiting (s : State) : s.faulted.disableWaiting = s.disableWaiting := by
  rw [State.faulted_eq, ← s.withdraw_sameLink.disableWaiting]
  dsimp only
  split
  · rfl
  · rw [State.queueAll_eq]

/-- A fault that no LINK_DISABLE waits for, announced last (R94). -/
theorem State.enterFaulted_of_withdraw {s w : State} (hw : s.withdraw = w) (hd : s.disableWaiting = false) : s.enterFaulted
    = if s.faultAnnounced then { w with link := .faulted, phaseLeft := 0, watchLeft := 10000, faultAnnounced := true }
      else { w with link := .faulted, phaseLeft := 0, watchLeft := 10000, faultAnnounced := true }.queueAll .linkFault := by
  rw [State.enterFaulted_eq, State.faulted_disableWaiting, hd, if_neg (by decide), State.faulted_eq, hw]
  split
  · rfl
  · obtain ⟨t, ht⟩ : ∃ t, w.queueAll .linkFault = { w with mail := t } := ⟨_, w.queueAll_eq _⟩
    rw [State.queueAll_of_same (s := w) (u := { w with
      link := .faulted, phaseLeft := 0, watchLeft := 10000, faultAnnounced := true }) rfl rfl rfl, ht]

/-- The line reset completed, its recovery announced last (R92, R94). -/
theorem State.recovered_eq (s : State) : s.recovered
    = if s.faultAnnounced then { s with
          stations := freshStations
          link := .idle
          phaseLeft := 0
          faultAnnounced := false }.queueAll .linkRecovered
      else { s with
        stations := freshStations
        link := .idle
        phaseLeft := 0
        faultAnnounced := false } := by
  unfold State.recovered State.announceRecovery
  dsimp only
  split
  · rw [State.queueAll_of_same (s := { s with stations := freshStations, link := .idle, phaseLeft := 0 })
      (u := { s with stations := freshStations, link := .idle, phaseLeft := 0, faultAnnounced := false }) rfl rfl rfl]
    rw [State.queueAll_eq]
  next hf =>
    rw [Bool.not_eq_true] at hf
    rw [← hf]

theorem State.recovered_disableWaiting (s : State) : s.recovered.disableWaiting = s.disableWaiting := by
  rw [State.recovered_eq]
  split
  · rw [State.queueAll_eq]
  · rfl

/-! ### The commands of a fault and of a line reset -/

section
variable {s : State}

theorem exec_lineFault (h : s.link = .switching ∨ s.link = .sending ∨ s.link = .lineReset .segmentGuard
    ∨ s.link = .lineReset .hold) : Machine.exec .lineFault s = .next (s.reads .low).enterFaulted := by
  show execLineFault s = _
  obtain h | h | h | h := h <;> simp only [execLineFault, State.reads, h]

theorem exec_lineResetGuardEnd_low (h : s.link = .lineReset .segmentGuard) :
    Machine.exec (.lineResetGuardEnd .low) s = .next (s.reads .low).enterFaulted := by
  show execLineResetGuardEnd .low s = _
  simp only [execLineResetGuardEnd, State.reads, h]

section
variable (h : s.link = .lineReset .hold)
include h

theorem exec_lineResetHoldEnd_low : Machine.exec (.lineResetHoldEnd .low) s = .next (s.reads .low).enterFaulted := by
  show execLineResetHoldEnd .low s = _
  simp only [execLineResetHoldEnd, State.reads, h]

theorem exec_lineResetHoldEnd_next {g : SegmentId} (hg : nextSegment s.segment = some g) :
    Machine.exec (.lineResetHoldEnd .high) s = .next ((s.reads .high).resetSegment g) := by
  show execLineResetHoldEnd .high s = _
  simp only [execLineResetHoldEnd, State.reads, h, hg]

theorem exec_lineResetHoldEnd_last (hg : nextSegment s.segment = none) :
    Machine.exec (.lineResetHoldEnd .high) s = .next (s.reads .high).completeLineReset := by
  show execLineResetHoldEnd .high s = _
  simp only [execLineResetHoldEnd, State.reads, h, hg]

end

end

theorem nextSegment_of_succ {a g : SegmentId} (h : a.val + 1 = g.val) : nextSegment a = some g := by
  unfold nextSegment
  rw [dif_pos (by omega)]
  exact congrArg some (Fin.ext h)

theorem nextSegment_last {a : SegmentId} (h : a = 3) : nextSegment a = none := by
  rw [h]
  rfl

/-- Settles O60: the withdrawal by holder, then each command by the state of the link. -/
theorem lineFaultAndLineReset : Obligations.LineFaultAndLineReset := by
  intro s e l h tag r rest g bit told faulted visit reset x settled stopped w entered
  have hdone (hl : s.link = .lineReset .hold) (hg : s.segment = 3) :
      Machine.exec (.lineResetHoldEnd .high) s = .next (s.reads .high).completeLineReset :=
    exec_lineResetHoldEnd_last hl (nextSegment_last hg)
  -- a fault that no LINK_DISABLE waits for, by what the withdrawal leaves
  have fault (hd : s.disableWaiting = false) {v : State} (hv : s.withdraw = v) : (s.reads .low).enterFaulted
      = told { v with fda := .low, link := .faulted, phaseLeft := 0, watchLeft := 10000, faultAnnounced := true } :=
    State.enterFaulted_of_withdraw (s := s.reads .low) (w := v.reads .low) ((s.withdraw_reads .low).trans (congrArg (State.reads · .low) hv)) hd
  have quiet (hd : s.disableWaiting = false) (he : s.exec = none) : (s.reads .low).enterFaulted = told faulted := by
    rw [fault hd (State.withdraw_of_none he)]
    show told _ = told { s with
      fda := .low, exec := none, link := .faulted, phaseLeft := 0, watchLeft := 10000, faultAnnounced := true }
    rw [← he]
  have attempt (hl : s.link = .switching ∨ s.link = .sending) :
      Machine.exec .lineFault s = .next (s.reads .low).enterFaulted :=
    exec_lineFault (hl.imp_right .inl)
  refine ⟨State.withdraw_of_none, fun he => ⟨State.withdraw_of_lane he, fun hl hr ho hh => State.withdraw_answered he hl hr hh ho,
      fun hl hr ho hh => State.withdraw_unowned he hl hr hh ho, State.withdraw_of_direct he,
      fun hh => (State.withdraw_of_discarded he hh).trans (State.settleToggle_drop _ _), State.withdraw_of_probe he⟩,
    fun hd => ?_, fun hd => ?_, rfl, s.goOff_port, exec_lineFault, exec_lineResetGuardEnd_low,
    exec_lineResetHoldEnd_low, fun hl hg hd => ?_,
    fun hd => ⟨fun hl he hh hr => ?_, fun hl he hh hq => ?_, fun hl he hh => ?_, fun hl he => ⟨?_, ?_⟩,
      fun hl he => ⟨?_, ?_⟩, fun hl hg => ?_⟩,
    fun hl => ⟨?_, fun hw => ?_, fun hw => ?_⟩, fun hl => ?_, fun hl => ?_, fun hl hg => ?_⟩
  · rw [State.enterFaulted_eq, State.faulted_disableWaiting, hd, if_neg (by decide), State.faulted_eq]
  · rw [State.enterFaulted_eq, State.faulted_disableWaiting, hd, if_pos rfl, State.faulted_eq]
  · rw [hdone hl hg, State.completeLineReset_eq, State.recovered_disableWaiting,
      if_pos (show (s.reads .high).disableWaiting = true from hd), State.recovered_eq]
    rfl
  · rw [attempt hl, fault hd (State.withdraw_of_lane he hh (by rw [hr]; decide))]
    rfl
  · rw [attempt hl, fault hd (State.withdraw_of_direct he hh hq)]
    rfl
  · rw [attempt hl, fault hd (State.withdraw_of_probe he hh)]
  · rw [exec_lineFault (.inr (.inr (.inl hl))), quiet hd he]
  · exact (exec_lineResetGuardEnd_low hl).trans (congrArg _ (quiet hd he))
  · rw [exec_lineFault (.inr (.inr (.inr hl))), quiet hd he]
  · exact (exec_lineResetHoldEnd_low hl).trans (congrArg _ (quiet hd he))
  · have hd' : ¬ (s.reads .high).disableWaiting = true := by
      rw [show (s.reads .high).disableWaiting = false from hd]
      decide
    rw [hdone hl hg, State.completeLineReset_eq, State.recovered_disableWaiting, if_neg hd', State.recovered_eq]
    rfl
  · show execRecoveryWatchRestart s = _
    simp only [execRecoveryWatchRestart, hl]
    rfl
  · show execRecoveryWatchExpiry s = _
    simp only [execRecoveryWatchExpiry, hl, hw]
    rfl
  · show execRecoveryWatchExpiry s = _
    simp only [execRecoveryWatchExpiry, hl, if_neg hw]
  · show execLineResetGuardEnd .high s = _
    simp only [execLineResetGuardEnd, hl]
    rfl
  · show execLineResetDriveEnd s = _
    simp only [execLineResetDriveEnd, hl]
    rfl
  · exact exec_lineResetHoldEnd_next hl (nextSegment_of_succ hg)

end Sys2Proof.Machine
end


section
/-! SUPPORT. How an attempt begins, what the executor does on a free line, and the end of the gap. -/

set_option Elab.async false

namespace Sys2Proof.Machine

/-! ### Attempts -/

section
variable {s : State} {e : Execution} {data : List Byte}

/-- The frame of an attempt on the current segment starts on a high FDA (R87, R102). -/
theorem State.frameStart_high (hc : s.carries e data) (hf : s.fda = .high) : s.frameStart e = some { s with
    exec := some { e with inFlight := true, captured := ⟨data, s.carriedToggle e.step⟩ }
    link := .sending
    phaseLeft := s.bits (34 + 8 * data.length) } := by
  simp only [State.frameStart, s.capture_of_carries e data hc, hf, s.frameToggle_eq e]
  rfl

theorem State.frameStart_low (hc : s.carries e data) (hf : s.fda = .low) : s.frameStart e
    = some { s with exec := some { e with inFlight := true, captured := ⟨data, s.carriedToggle e.step⟩ } }.enterFaulted := by
  simp only [State.frameStart, s.capture_of_carries e data hc, hf, s.frameToggle_eq e]

theorem State.frameStart_of_no_source (hc : e.step.copies = true) (hn : ∀ b, ¬ s.carries e b) : s.frameStart e = none := by
  simp only [State.frameStart, s.capture_of_no_source e hc hn]

/-- An attempt has a check before its station's only where it sends a record (R100, R101). -/
theorem State.failsCheck_of_plain (hp : e.holder ≠ .probe) (hc : e.step.copies = false) :
    s.failsCheck e = if s.silentFor e.step then some .stationSilent else none := by
  unfold State.failsCheck
  cases hh : e.holder with
  | probe => exact absurd hh hp
  | _ =>
    cases hs : e.step with
    | copy =>
      rw [hs] at hc
      cases hc
    | _ => rfl

theorem State.failsCheck_of_copy (hp : e.holder ≠ .probe) (hc : e.step.copies = true) : s.failsCheck e
    = if (s.capture e).isNone then some .sourceEmpty else if s.silentFor e.step then some .stationSilent else none := by
  cases hs : e.step with
  | copy seg n idx y r into =>
    unfold State.failsCheck State.capture
    rw [hs]
    cases hh : e.holder with
    | probe => exact absurd hh hp
    | _ => rfl
  | _ =>
    rw [hs] at hc
    cases hc

theorem State.failsCheck_of_probe (hp : e.holder = .probe) : s.failsCheck e = none := by
  unfold State.failsCheck
  rw [hp]

section
variable (hp : e.holder ≠ .probe)
include hp

theorem State.failsCheck_of_no_source (hc : e.step.copies = true) (hn : ∀ b, ¬ s.carries e b) :
    s.failsCheck e = some .sourceEmpty := by
  rw [State.failsCheck_of_copy hp hc, s.capture_of_no_source e hc hn]
  rfl

theorem State.failsCheck_of_silent (hs : s.silentFor e.step = true) (h : e.step.copies = false ∨ s.carries e data) :
    s.failsCheck e = some .stationSilent := by
  cases hc : e.step.copies with
  | false => rw [State.failsCheck_of_plain hp hc, if_pos hs]
  | true =>
    obtain h | h := h
    · rw [hc] at h
      cases h
    · rw [State.failsCheck_of_copy hp hc, s.capture_of_carries e data h, if_neg (by simp), if_pos hs]

end

theorem State.failsCheck_of_carries (hs : s.silentFor e.step = false) (h : s.carries e data) : s.failsCheck e = none := by
  by_cases hp : e.holder = .probe
  · exact State.failsCheck_of_probe hp
  · cases hc : e.step.copies with
    | false => rw [State.failsCheck_of_plain hp hc, if_neg (by simp [hs])]
    | true => rw [State.failsCheck_of_copy hp hc, s.capture_of_carries e data h, if_neg (by simp), if_neg (by simp [hs])]

/-! ### The free line -/

section
variable (he : s.exec = some e) (hl : s.link = .idle) (k : Nat)
include he hl

/-- A step that fails a check before its attempt ends without line time (R100, R113). -/
theorem State.drive_of_fails {o : StepOutcome} (hf : s.failsCheck e = some o) :
    s.drive (k + 1) = (s.stepEnd e o []).drive k := by
  simp [State.drive, he, hl, hf]

section
variable (hf : s.failsCheck e = none) (hc : s.carries e data)
include hf hc

/-- The holder of the grant begins its attempt on the free line (R87, R88). -/
theorem State.drive_begun {seg : SegmentId} (hg : e.step.segment = some seg) (hv : seg ≠ s.segment ∨ s.fda = .high) :
    s.drive (k + 1) = s.begun { e with inFlight := true } seg data := by
  unfold State.begun
  by_cases hs : seg = s.segment
  · have hv : s.fda = .high := hv.resolve_left (not_not_intro hs)
    simp [State.drive, he, hl, hf, hg, hs, State.frameStart_high hc hv]
  · simp [State.drive, he, hl, hf, hg, hs, State.switchSegment]

theorem State.drive_faulted (hg : e.step.segment = some s.segment) (hv : s.fda = .low) : s.drive (k + 1)
    = { s with exec := some { e with inFlight := true, captured := ⟨data, s.carriedToggle e.step⟩ } }.enterFaulted := by
  simp [State.drive, he, hl, hf, hg, State.frameStart_low hc hv]

end

end

end

/-- The state with its line free and nothing begun on it. -/
def State.idled (s : State) : State := { s with link := .idle, phaseLeft := 0 }

theorem State.lineFree_eq (s : State) : s.lineFree = if s.disableWaiting then s.goOff else s.idled.drive driveRounds := rfl

/-- The line free with nothing in execution (R59, R91). -/
theorem State.lineFree_of_none {s : State} {waiting : Bool} (hw : s.disableWaiting = waiting) (he : s.exec = none) :
    s.lineFree = if waiting then s.goOff else s.idled := by
  rw [State.lineFree_eq, hw, State.drive_idle driveRounds s.idled (.inl he)]

/-! ### Step ends by holder -/

section
variable {s : State} {e : Execution} (o : StepOutcome) (data : List Byte)

theorem State.stepEnd_lane {l : LaneId} (hh : e.holder = .lane l) : s.stepEnd e o data
    = ({ s with exec := none }.settleToggle e.step e.fullySent).laneStepEnd l e o data := by
  simp only [State.stepEnd, hh]

theorem State.stepEnd_direct {h : HostId} (hh : e.holder = .direct h) : s.stepEnd e o data
    = ({ s with exec := none }.settleToggle e.step e.fullySent).directDone h e o data := by
  simp only [State.stepEnd, hh]

theorem State.stepEnd_neither (hh : e.holder = .discarded ∨ e.holder = .probe) : s.stepEnd e o data
    = { s with exec := none }.settleToggle e.step e.fullySent := by
  obtain hh | hh := hh <;> simp only [State.stepEnd, hh]

theorem State.settleToggle_of_broadcast {st : Step} (hb : st.isBroadcast = true) (sent : Bool) : s.settleToggle st sent = s := by
  cases st with
  | broadcast => rfl
  | _ => cases hb

end

/-! ### The end of the gap -/

theorem exec_gapEnd {s : State} (h : s.link = .gap) (v : Level) :
    Machine.exec (.gapEnd v) s = .next (s.reads v).endBroadcast.lineFree := by
  show execGapEnd v s = _
  simp only [execGapEnd, State.reads, h]

theorem State.endBroadcast_of_none {s : State} (he : s.exec = none) : s.endBroadcast = s := by
  simp only [State.endBroadcast, he]

theorem State.endBroadcast_of_waiting {s : State} {e : Execution} (he : s.exec = some e) (hf : e.inFlight = false) :
    s.endBroadcast = s := by
  simp only [State.endBroadcast, he, hf]
  rfl

theorem State.endBroadcast_of_sent {s : State} {e : Execution} (he : s.exec = some e) (hf : e.inFlight = true) :
    s.endBroadcast = s.stepEnd { e with attempts := 1 } .done [] := by
  simp only [State.endBroadcast, he]
  exact if_pos hf

/-- Settles O59: the free line first, then the BROADCAST in its gap by its holder. -/
theorem gapEndFreesTheLine : Obligations.GapEndFreesTheLine := by
  intro s fda e l h tag r rest seg data k got freed x begins done after stopped free
  have hgot (hg : s.link = .gap) : got = .next (s.reads fda).endBroadcast.lineFree := exec_gapEnd hg fda
  refine ⟨s.drive_idle k, fun he hl hp => ⟨fun hc hn => ?_, fun hs hc => ?_, fun hs hc hg hv => ?_, fun hs hc hg hv => ?_⟩,
    fun hl => ?_, fun hg => ⟨fun he hd => ?_, fun he hd => ⟨(s.reads fda).goOff, ?_, ?_, fun k => ?_⟩,
      fun he hd hf => ?_, fun he hd hf hseg hs hc hv => ?_, fun he hf hb => ?_⟩⟩
  · exact State.drive_of_fails he hl k (State.failsCheck_of_no_source hp hc hn)
  · exact State.drive_of_fails he hl k (State.failsCheck_of_silent hp hs hc)
  · exact State.drive_begun he hl k (State.failsCheck_of_carries hs hc) hc hg hv
  · exact State.drive_faulted he hl k (State.failsCheck_of_carries hs hc) hc hg hv
  · show execGapEnd fda s = _
    unfold execGapEnd
    split
    · exact absurd ‹_› hl
    · rfl
  · rw [hgot hg, State.endBroadcast_of_none (s := s.reads fda) he, State.lineFree_of_none (s := s.reads fda) hd he]
    rfl
  · rw [hgot hg, State.endBroadcast_of_none (s := s.reads fda) he, State.lineFree_of_none (s := s.reads fda) hd he]
    rfl
  · rw [State.goOff_eq, State.withdraw_of_none (s := s.reads fda) he]
    rfl
  · rw [State.goOff_port, State.withdraw_of_none (s := s.reads fda) he]
    rfl
  · rw [hgot hg, State.endBroadcast_of_waiting (s := s.reads fda) he hf, State.lineFree_eq]
    exact congrArg _ (if_pos hd)
  · rw [hgot hg, State.endBroadcast_of_waiting (s := s.reads fda) he hf, State.lineFree_eq, if_neg (by simpa [State.reads] using hd)]
    exact congrArg _ (State.drive_begun (s := freed) he rfl 511 (State.failsCheck_of_carries (s := freed) hs hc) hc hseg hv)
  · let u : State := { s with fda := fda, exec := none }
    have hend : (s.reads fda).endBroadcast = (s.reads fda).stepEnd { e with attempts := 1 } .done [] :=
      State.endBroadcast_of_sent (s := s.reads fda) he hf
    have hset : u.settleToggle e.step e.fullySent = u := State.settleToggle_of_broadcast hb _
    have hasks : e.step.asks = 0 := by
      cases hs : e.step with
      | broadcast => rfl
      | _ => rw [hs] at hb; cases hb
    have hwrite : u.writeRecord l { e with attempts := 1 } .done [] = done :=
      State.writeRecord_eq { e with attempts := 1 } .done [] rfl fun _ => rfl
    have hnone : done.exec = none := by
      rw [← hwrite, State.writeRecord_exec]
    have hwaits : done.disableWaiting = s.disableWaiting := by
      have hsame := (State.writeRecord_acts (reach := 1) u l { e with attempts := 1 } .done []).sameLink
      rw [hwrite] at hsame
      exact hsame.disableWaiting
    -- a lane's step, then the line by what it leaves
    have lane (hh : e.holder = .lane l) : got = .next (u.laneStepEnd l { e with attempts := 1 } .done []).lineFree := by
      rw [hgot hg, hend, State.stepEnd_lane (e := { e with attempts := 1 }) .done [] hh]
      exact congrArg (fun v : State => Host.Outcome.next (v.laneStepEnd l { e with attempts := 1 } .done []).lineFree) hset
    have passed (hr : x.run = .running) : u.laneStepEnd l { e with attempts := 1 } .done [] = after := by
      rw [State.laneStepEnd_done (s := u) (l := l) (by rw [show (u.lane l).run = .running from hr]; decide), hwrite]
      rfl
    have hafter : after.disableWaiting = s.disableWaiting := by
      have hsame := (State.boundary_acts (reach := 0) (done.setLane l { x with position := x.position + 1 }) l).sameLink
      exact hsame.disableWaiting.trans hwaits
    refine ⟨fun hh hq => ?_, fun hh hr hd => ?_, fun hh hr hd => ?_, fun hh hr hn ho hbusy hu => ?_, fun hh hr hn ho hu => ?_,
      fun hh => ?_⟩
    · rw [hgot hg, hend, State.stepEnd_direct (e := { e with attempts := 1 }) .done [] hh]
      refine (congrArg (fun v : State => Host.Outcome.next (v.directDone h { e with attempts := 1 } .done []).lineFree) hset).trans ?_
      rw [State.directDone_of_head (s := u) hq, if_neg (by simp [hasks]), State.lineFree_of_none (waiting := s.disableWaiting)]
      · rfl
      · rw [State.queueEvent_eq]
        rfl
      · rw [State.queueEvent_eq]
        rfl
    · rw [lane hh, passed hr, State.lineFree_eq, hafter, hd]
      show _ = Host.Outcome.next (State.drive _ (if s.disableWaiting then _ else _))
      rw [hd]
      rfl
    · rw [lane hh, passed hr, State.lineFree_eq, hafter, if_pos hd]
    · rw [lane hh, State.laneStepEnd_answered (s := u) (l := l) hr rfl hn ho hbusy hu, hwrite, State.lineFree_of_none (waiting := s.disableWaiting)]
      · rfl
      · rw [State.queueEvent_eq]
        exact hwaits
      · rw [State.queueEvent_eq]
        exact hnone
    · rw [lane hh, State.laneStepEnd_unowned (s := u) (l := l) hr rfl hn ho hu, hwrite, State.lineFree_of_none (waiting := s.disableWaiting)]
      · rfl
      · exact hwaits
      · exact hnone
    · rw [hgot hg, hend, State.stepEnd_neither (e := { e with attempts := 1 }) .done [] hh]
      refine (congrArg (fun v : State => Host.Outcome.next v.lineFree) hset).trans ?_
      rw [State.lineFree_of_none (s := u) (waiting := s.disableWaiting) rfl rfl]
      rfl

end Sys2Proof.Machine
end


section
/-! SUPPORT. The statement about the frame on the line: guard end, frame bytes, frame end, and the start of a reply. -/

set_option Elab.async false

namespace Sys2Proof.Machine

/-! ### A lane's step that ends without line time -/

section
variable {s : State} {e : Execution} {l : LaneId}

/-- The state in which a step has ended for the executor, its toggle settled (R98, R111). -/
def State.dropped (s : State) (e : Execution) : State := { s with exec := none }.settleToggle e.step e.fullySent

theorem State.dropped_eq (s : State) (e : Execution) :
    s.dropped e = { s with exec := none, stations := (s.dropped e).stations } :=
  State.settleToggle_eq _ _ _

theorem State.dropped_lane (m : LaneId) : (s.dropped e).lane m = s.lane m := by
  rw [State.dropped_eq]
  rfl

theorem State.dropped_bank (m : LaneId) (b : BankId) : (s.dropped e).bank m b = s.bank m b := by
  rw [State.dropped_eq]
  rfl

theorem State.dropped_port (k : HostId) : (s.dropped e).port k = s.port k := by
  rw [State.dropped_eq]
  rfl

theorem State.dropped_directQueue (k : HostId) : (s.dropped e).directQueue k = s.directQueue k := by
  rw [State.dropped_eq]
  rfl

theorem State.dropped_exec : (s.dropped e).exec = none := by
  rw [State.dropped_eq]

theorem State.dropped_disableWaiting : (s.dropped e).disableWaiting = s.disableWaiting := by
  rw [State.dropped_eq]

theorem State.stepEnd_dropped (o : StepOutcome) (data : List Byte) (hh : e.holder = .lane l) :
    s.stepEnd e o data = (s.dropped e).laneStepEnd l e o data := State.stepEnd_lane o data hh

/-- What a step writes leaves the executor and a waiting LINK_DISABLE alone (R112). -/
theorem State.writeRecord_disableWaiting (o : StepOutcome) (data : List Byte) :
    (s.writeRecord l e o data).disableWaiting = s.disableWaiting :=
  (State.writeRecord_acts (reach := 1) s l e o data).sameLink.disableWaiting

end

/-! ### The commands -/

section
variable {s : State} {e : Execution} (hl : s.link = .switching) (he : s.exec = some e) {v : Level}
include hl he

theorem exec_segmentGuardEnd_of_some {t : State} (ht : (s.reads v).frameStart e = some t) :
    Machine.exec (.segmentGuardEnd v) s = .next t := by
  show execSegmentGuardEnd v s = _
  have ht' : { s with fda := v }.frameStart e = some t := ht
  simp only [execSegmentGuardEnd, hl, he] at ht' ⊢
  rw [ht']

theorem exec_segmentGuardEnd_of_none (ht : (s.reads v).frameStart e = none) :
    Machine.exec (.segmentGuardEnd v) s = .next ((s.reads v).stepEnd e .sourceEmpty []).lineFree := by
  show execSegmentGuardEnd v s = _
  have ht' : { s with fda := v }.frameStart e = none := ht
  simp only [execSegmentGuardEnd, State.reads, hl, he] at ht' ⊢
  rw [ht']

end

section
variable {s : State} {e : Execution}

theorem exec_frameFullySent (hl : s.link = .sending) (he : s.exec = some e) : Machine.exec .frameFullySent s
    = .next (if e.step.isBroadcast then { s with
        exec := some { e with fullySent := true }, link := .gap, phaseLeft := 4 * s.settings.lineRate.bitTime }
      else { s with
        exec := some { e with fullySent := true }
        link := .awaitReply false
        phaseLeft := s.settings.replyTimeout * 10 }) := by
  show execFrameFullySent s = _
  simp only [execFrameFullySent, hl, he]
  split <;> rfl

end

/-- Settles O52: guard end by what the frame carries, the frame's bytes by kind, and the commands that follow it. -/
theorem frameGoesOutAndIsAwaited : Obligations.FrameGoesOutAndIsAwaited := by
  intro s e data fda l h tag seg n idx c y rc into he sent x u noted failed halted skipped stopped answered free checked bit
    long
  refine ⟨fun hl hc => ?_, fun hl hc => ?_, fun hl hc hn hh hheld => ?_, fun hl => ?_, fun hc hd => ?_, ?_, ?_, ?_,
    fun hl hb => ?_, fun hl hb => ?_, fun hl => ?_, fun hl => ?_, fun hl => ?_, fun hl => ?_, fun hl => ?_⟩
  · exact exec_segmentGuardEnd_of_some hl he (State.frameStart_high (s := s.reads .high) hc rfl)
  · exact exec_segmentGuardEnd_of_some hl he (State.frameStart_low (s := s.reads .low) hc rfl)
  · have hgot : Machine.exec (.segmentGuardEnd fda) s = .next (u.laneStepEnd l e .sourceEmpty []).lineFree := by
      rw [exec_segmentGuardEnd_of_none hl he (State.frameStart_of_no_source (s := s.reads fda) hc hn),
        State.stepEnd_dropped (s := s.reads fda) _ _ hh]
      rfl
    have hlane : u.lane l = x := State.dropped_lane (s := s.reads fda) l
    have hport (k : HostId) : u.port k = s.port k := State.dropped_port (s := s.reads fda) k
    have hnone : u.exec = none := State.dropped_exec (s := s.reads fda)
    have hwaits : u.disableWaiting = s.disableWaiting := State.dropped_disableWaiting (s := s.reads fda)
    have hwrite : u.writeRecord l e .sourceEmpty [] = noted :=
      State.writeRecord_eq e .sourceEmpty [] (congrArg Lane.write hlane) (State.dropped_bank (s := s.reads fda) l)
    have hnoted : noted.exec = none ∧ noted.disableWaiting = s.disableWaiting := by
      rw [← hwrite, State.writeRecord_exec, State.writeRecord_disableWaiting]
      exact ⟨hnone, hwaits⟩
    obtain ⟨hfree, hwait⟩ := hnoted
    have skips (hr : x.run = .running) (hp : x.config.onError = .skip) :
        u.laneStepEnd l e .sourceEmpty [] = skipped ∧ skipped.disableWaiting = s.disableWaiting := by
      refine ⟨?_, ?_⟩
      · rw [State.laneStepEnd_skip (s := u) (by rw [hlane, hr]; decide) (by decide) (hlane ▸ hp), hwrite, hlane]
      · refine (State.boundary_acts (reach := 0) _ l).sameLink.disableWaiting.trans ?_
        rw [State.queueOwner_eq]
        exact hwait
    refine ⟨fun hr hp => ?_, fun hr hp => ⟨fun hd => ?_, fun hd => ?_⟩, fun hr ho hb hu => ?_, fun hr ho hu => ?_⟩
    · rw [hgot, State.laneStepEnd_halt (s := u) (by rw [hlane, hr]; decide) (by decide) (hlane ▸ hp) (hlane ▸ hheld), hwrite,
        hlane, State.lineFree_of_none (waiting := s.disableWaiting)]
      · rfl
      · rw [State.queueOwner_eq]
        exact hwait
      · rw [State.queueOwner_eq]
        exact hfree
    · obtain ⟨hskip, hw⟩ := skips hr hp
      rw [hgot, hskip, State.lineFree_eq, hw, hd]
      show _ = Host.Outcome.next (State.drive _ (if s.disableWaiting then _ else _))
      rw [hd]
      rfl
    · obtain ⟨hskip, hw⟩ := skips hr hp
      rw [hgot, hskip, State.lineFree_eq, hw, hd]
      show _ = Host.Outcome.next (if s.disableWaiting then _ else _)
      rw [hd]
      rfl
    · rw [hgot, State.laneStepEnd_answered (s := u) (hlane ▸ hr) hnone (hlane ▸ hheld) (hlane ▸ ho) ((hport h).symm ▸ hb)
        (fun k hk => (hport k).symm ▸ hu k hk), hwrite, hlane, hport, State.lineFree_of_none (waiting := s.disableWaiting)]
      · rfl
      · rw [State.queueEvent_eq]
        exact hwait
      · rw [State.queueEvent_eq]
        exact hfree
    · rw [hgot, State.laneStepEnd_unowned (s := u) (hlane ▸ hr) hnone (hlane ▸ hheld) (hlane ▸ ho)
        (fun k => (hport k).symm ▸ hu k), hwrite, hlane, State.lineFree_of_none (waiting := s.disableWaiting)]
      · rfl
      · exact hwait
      · exact hfree
  · show execSegmentGuardEnd fda s = _
    unfold execSegmentGuardEnd
    split
    · exact absurd ‹_› hl
    · rfl
  · have hask : ¬ (Step.read seg n idx c into).asks = 0 := hc
    simp only [Execution.fieldFrame, if_neg hask, hd]
    rfl
  · rfl
  · rfl
  · rfl
  · rw [exec_frameFullySent hl he, if_pos hb]
  · rw [exec_frameFullySent hl he, if_neg (by simp [hb])]
  · show execFrameFullySent s = _
    unfold execFrameFullySent
    split
    · exact absurd ‹_› hl
    · rfl
  · show execReplyStartMark s = _
    simp only [execReplyStartMark, hl]
  · show execReplyStartMark s = _
    simp only [execReplyStartMark, hl]
  · show execReplyStartMark s = _
    unfold execReplyStartMark
    split
    · exact absurd ‹_› (hl _)
    · exact absurd ‹_› (hl _)
    · rfl
  · show execReplyTimeout s = _
    unfold execReplyTimeout
    split
    · exact absurd ‹_› hl
    · rfl

end Sys2Proof.Machine
end


section
/-! SUPPORT. The statement about grants: who receives one, the attempt it begins, and the step or the pass that ends at it. -/

set_option Elab.async false

namespace Sys2Proof.Machine

/-! ### What a frame carries, and an attempt on the free line -/

/-- What a frame carries does not change where the lanes keep their programs, positions, conditions and front banks. -/
theorem State.carries_of_same {s t : State} {e f : Execution} {data : List Byte} (hs : f.step = e.step)
    (hh : f.holder = e.holder) (hp : ∀ m, (t.lane m).program = (s.lane m).program)
    (hpos : ∀ m, (t.lane m).position = (s.lane m).position) (hc : ∀ m, (t.lane m).condition = (s.lane m).condition)
    (hf : ∀ m, (t.lane m).front = (s.lane m).front) (hb : t.banks = s.banks) : t.carries f data ↔ s.carries e data := by
  have hbank (m : LaneId) (b : BankId) : t.bank m b = s.bank m b := by
    unfold State.bank
    rw [hb]
  unfold State.carries
  rw [hs, hh]
  simp only [hp, hpos, hc, hf, hbank]

/-- The lane's record changes in what no frame carries. -/
theorem State.carries_setLane {s t : State} {l : LaneId} {x : Lane} {e f : Execution} {data : List Byte}
    (hs : f.step = e.step) (hh : f.holder = e.holder) (ht : t.lanes = (s.setLane l x).lanes) (hb : t.banks = s.banks)
    (hp : x.program = (s.lane l).program) (hpos : x.position = (s.lane l).position)
    (hc : x.condition = (s.lane l).condition) (hf : x.front = (s.lane l).front) : t.carries f data ↔ s.carries e data := by
  have hlane (m : LaneId) : t.lane m = (s.setLane l x).lane m := by
    unfold State.lane
    rw [ht]
  have keeps {α : Type} (g : Lane → α) (h : g x = g (s.lane l)) (m : LaneId) : g (t.lane m) = g (s.lane m) := by
    rw [hlane]
    by_cases e : l = m
    · subst e
      rw [State.lane_setLane_self, h]
    · rw [State.lane_setLane_ne s x e]
  exact State.carries_of_same hs hh (keeps _ hp) (keeps _ hpos) (keeps _ hc) (keeps _ hf) hb

/-- The holder of the grant begins its attempt, or meets a fault where FDA reads low (R87, R88, R94). -/
theorem State.drive_attempt {s : State} {e : Execution} {data : List Byte} {seg : SegmentId} (he : s.exec = some e)
    (hl : s.link = .idle) (hf : s.failsCheck e = none) (hc : s.carries e data) (hg : e.step.segment = some seg) :
    s.drive driveRounds = if seg = s.segment ∧ s.fda = .low then
        { s with exec := some { e with inFlight := true, captured := ⟨data, s.carriedToggle e.step⟩ } }.enterFaulted
      else s.begun { e with inFlight := true } seg data := by
  split
  next h =>
    obtain ⟨rfl, hv⟩ := h
    exact State.drive_faulted he hl 511 hf hc hg hv
  next h =>
    refine State.drive_begun he hl 511 hf hc hg ?_
    by_cases hs : seg = s.segment
    · cases hv : s.fda with
      | low => exact absurd ⟨hs, hv⟩ h
      | high => exact .inr rfl
    · exact .inl hs

/-- A holder that has just received the grant, with FDA read at the grant point. -/
theorem State.drive_granted {v : State} {g : Execution} {data : List Byte} {seg : SegmentId} (hl : v.link = .idle)
    (hf : { v with exec := some g }.failsCheck g = none) (hc : { v with exec := some g }.carries g data)
    (hg : g.step.segment = some seg) : (Host.Outcome.next ({ v with exec := some g }.drive driveRounds) : Answered)
      = if seg = v.segment ∧ v.fda = .low then
          .next { v with exec := some { g with inFlight := true, captured := ⟨data, v.carriedToggle g.step⟩ } }.enterFaulted
        else .next (v.begun { g with inFlight := true } seg data) := by
  rw [State.drive_attempt (s := { v with exec := some g }) rfl hl hf hc hg, apply_ite Host.Outcome.next]
  rfl

/-! ### The grant -/

theorem State.grantPoint_of {s : State} {c : Candidate} (hl : s.link = .idle) (hx : s.exec = none)
    (hb : s.bestCandidate = some c) : s.grantPoint = true := by
  simp [State.grantPoint, hl, hx, hb]

theorem exec_grant {s : State} {c : Candidate} (hl : s.link = .idle) (hx : s.exec = none)
    (hb : s.bestCandidate = some c) (v : Level) :
    Machine.exec (.grant v) s = .next (((s.reads v).giveGrant c).drive driveRounds) := by
  show execGrant v s = _
  simp only [execGrant, hb, State.grantPoint_of hl hx hb]
  rfl

/-- A lane that receives the grant, before its completion and BREAK checks (R64). -/
def State.running (s : State) (l : LaneId) : State :=
  { s.setLane l { s.lane l with run := .running } with lanePtr := put s.lanePtr (s.lane l).config.priority (some l) }

section
variable {s : State} {l : LaneId}

theorem State.grantLane_eq : s.grantLane l = match (s.running l).passChecks l ((s.running l).stepsLeft l) with
    | .ended t => t
    | .goesOn st t => t.execute l st := rfl

theorem State.running_lane : (s.running l).lane l = { s.lane l with run := .running } := State.lane_setLane_self ..

theorem State.running_setLane (x : Lane) : (s.running l).setLane l x
    = { s.setLane l x with lanePtr := put s.lanePtr (s.lane l).config.priority (some l) } := by
  rw [← s.setLane_setLane l { s.lane l with run := .running } x]
  rfl

/-- A lane granted at the end of its program completes its pass (R66). -/
theorem State.grantLane_of_end (h : (s.lane l).program[(s.lane l).position]? = none) :
    s.grantLane l = (s.running l).completePass l := by
  rw [State.grantLane_eq, State.stepsLeft_of_none (by rw [State.running_lane]; exact h)]
  rfl

/-- A lane granted at a BREAK stops there (R67). -/
theorem State.grantLane_of_break {tag : Byte} (h : (s.lane l).program[(s.lane l).position]? = some (.brk tag))
    (hp : (s.lane l).pending = false) : s.grantLane l
      = ({ s.setLane l { s.lane l with run := .atBreak, position := (s.lane l).position + 1 } with
          lanePtr := put s.lanePtr (s.lane l).config.priority (some l) }.queueOwner l
            (.breakReached l (s.lane l).position tag)) := by
  rw [State.grantLane_eq, State.stepsLeft_of_some (st := .brk tag) (by rw [State.running_lane]; exact h),
    State.passChecks_break_held _ (by rw [State.running_lane]; exact hp), State.running_setLane, State.running_lane]

/-- A lane granted at a BREAK passes it on a pending trigger, and executes its next step (R67). -/
theorem State.grantLane_past_break {tag : Byte} {st : Step}
    (h : (s.lane l).program[(s.lane l).position]? = some (.brk tag)) (hp : (s.lane l).pending = true)
    (hn : (s.lane l).program[(s.lane l).position + 1]? = some st) (hs : st.segment ≠ none) : s.grantLane l
      = { s.setLane l { s.lane l with
            run := .running, position := (s.lane l).position + 1, pending := false, held := none } with
          lanePtr := put s.lanePtr (s.lane l).config.priority (some l)
          exec := some ⟨.lane l, st, (s.lane l).config.limit, (s.lane l).config.interval,
            ((s.lane l).held.getD ⟨0, false⟩).attempts, ((s.lane l).held.getD ⟨0, false⟩).fullySent, false, ⟨[], false⟩⟩ } := by
  let y : Lane := { s.lane l with run := .running, position := (s.lane l).position + 1, pending := false }
  let u : State := { s.setLane l y with lanePtr := put s.lanePtr (s.lane l).config.priority (some l) }
  have hy : u.lane l = y := State.lane_setLane_self ..
  have hleft : (s.running l).stepsLeft l = .brk tag :: u.stepsLeft l := by
    rw [State.stepsLeft_of_some (st := .brk tag) (by rw [State.running_lane]; exact h), State.stepsLeft, hy,
      State.running_lane]
  have hchecks : (s.running l).passChecks l ((s.running l).stepsLeft l) = .goesOn st u := by
    rw [hleft, State.passChecks_break_passed _ (by rw [State.running_lane]; exact hp), State.running_setLane,
      State.running_lane, State.stepsLeft_of_some (st := st) (by rw [hy]; exact hn)]
    exact State.passChecks_step _ hs
  have hset : u.setLane l { y with held := none } = { s.setLane l { y with held := none } with
      lanePtr := put s.lanePtr (s.lane l).config.priority (some l) } := by
    rw [← s.setLane_setLane l y { y with held := none }]
    rfl
  rw [State.grantLane_eq, hchecks]
  show u.execute l st = _
  unfold State.execute
  dsimp only
  rw [hy, hset]

theorem State.grantDirect_of_head {h : HostId} {r : DirectRequest} {rest : List DirectRequest}
    (hq : s.directQueue h = r :: rest) : s.grantDirect h = { s with
      directPtr := some h
      exec := some ⟨.direct h, r.step, r.limit, r.interval, r.attempts, r.fullySent, false, ⟨[], false⟩⟩ } := by
  simp only [State.grantDirect, hq]

end

theorem State.settleToggle_bank (s : State) (st : Step) (sent : Bool) (l : LaneId) (b : BankId) :
    (s.settleToggle st sent).bank l b = s.bank l b := by
  rw [State.settleToggle_eq]
  rfl

theorem State.settleToggle_directQueue (s : State) (st : Step) (sent : Bool) (h : HostId) :
    (s.settleToggle st sent).directQueue h = s.directQueue h := by
  rw [State.settleToggle_eq]
  rfl

/-- A step that a check refuses addresses a station or sends a record: it is no BREAK. -/
theorem Step.segment_ne_none {st : Step} {s : State} (h : s.silentFor st = true ∨ st.copies = true) : st.segment ≠ none := by
  cases st with
  | brk => obtain h | h := h <;> cases h
  | _ => exact fun h => nomatch h

theorem Step.copies_of_direct {st : Step} (h : st.asks ≠ 0 ∨ st.patchable = true) : st.copies = false := by
  cases st with
  | copy =>
    obtain h | h := h
    · exact absurd rfl h
    · cases h
  | _ => rfl

/-- Settles O51: who is chosen, the step it brings, and what its checks say. -/
theorem grantBeginsAnAttempt : Obligations.GrantBeginsAnAttempt := by
  intro s fda l h r rest st seg n data o tag x kept e d p u pointed granted directed probed begins ends noted failed halted
  let waits : Execution := { e with inFlight := false }
  have hcarries (b : List Byte) : { granted with exec := some waits }.carries waits b ↔ s.carries e b :=
    State.carries_setLane (s := s) (l := l) (x := { x with run := .running, held := none }) rfl rfl rfl rfl rfl rfl rfl rfl
  have hgrant (hst : x.program[x.position]? = some st) (hseg : st.segment ≠ none) :
      (s.reads fda).giveGrant (.lane l) = { granted with exec := some waits } :=
    State.grantLane_of_step (s := s.reads fda) hst hseg
  -- a step that fails a check ends at its grant
  let v : State := granted.settleToggle st kept.fullySent
  have hlane : v.lane l = { x with run := .running, held := none } :=
    (State.settleToggle_lane _ _ _ l).trans (State.lane_setLane_self ..)
  have hbank (b : BankId) : v.bank l b = s.bank l b := State.settleToggle_bank _ _ _ l b
  have hwrite : v.writeRecord l waits o [] = noted v :=
    State.writeRecord_eq (s := s) waits o [] (by rw [hlane]) hbank
  have hfree (b : EventBody) (y : Lane) : (((noted v).setLane l y).queueOwner l b).exec = s.exec := by
    rw [(State.queueOwner_acts (reach := 0) _ l b).exec, ← hwrite]
    exact State.writeRecord_exec.trans (State.settleToggle_acts (reach := 0) _ _ _).exec
  have fails (hl : s.link = .idle) (hx : s.exec = none) (hb : s.bestCandidate = some (.lane l))
      (hst : x.program[x.position]? = some st) (hends : ends) {k : Nat} (hk : k + 1 = driveRounds) :
      Machine.exec (.grant fda) s = .next ((v.laneStepEnd l waits o []).drive k) := by
    have hdrop : { granted with exec := some waits }.dropped waits = v := by
      show { granted with exec := none }.settleToggle st kept.fullySent = v
      rw [State.with_exec_none (s := granted) hx]
    have hfail : { granted with exec := some waits }.failsCheck waits = some o ∧ st.segment ≠ none := by
      obtain ⟨rfl, hs, hc⟩ | ⟨rfl, hs, hc⟩ | ⟨rfl, hc, hn⟩ := hends
      · exact ⟨State.failsCheck_of_silent (data := []) (by simp [waits, e]) hs (.inl hc), Step.segment_ne_none (.inl hs)⟩
      · exact ⟨State.failsCheck_of_silent (by simp [waits, e]) hs (.inr ((hcarries _).mpr hc)), Step.segment_ne_none (.inl hs)⟩
      · exact ⟨State.failsCheck_of_no_source (by simp [waits, e]) hc fun b hb => hn b ((hcarries b).mp hb),
          Step.segment_ne_none (s := s) (.inr hc)⟩
    obtain ⟨hfail, hseg⟩ := hfail
    rw [exec_grant hl hx hb, hgrant hst hseg, ← hk,
      State.drive_of_fails (s := { granted with exec := some waits }) rfl hl k hfail, State.stepEnd_dropped _ _ rfl, hdrop]
  have notDone (hends : ends) : o ≠ .done := by
    obtain ⟨rfl, -⟩ | ⟨rfl, -⟩ | ⟨rfl, -⟩ := hends <;> decide
  refine ⟨fun hl hx => ⟨fun hb => ⟨fun hst hseg hsil hc => ?_, fun hst => ?_, fun hst hp => ?_, fun hst hp hn hseg hsil hc => ?_,
      fun hst hends hpol => ?_, fun hst hends hpol k hk => ?_⟩, fun hb hq hkind => ⟨fun hseg hsil hc => ?_, fun hsil => ?_⟩,
      fun hb hdata => ?_⟩, fun hg => ?_⟩
  · rw [exec_grant hl hx hb, hgrant hst (by rw [hseg]; simp)]
    have hc' := (hcarries data).mpr hc
    exact State.drive_granted hl (State.failsCheck_of_carries hsil hc') hc' hseg
  · rw [exec_grant hl hx hb]
    have hgrant : (s.reads fda).giveGrant (.lane l) = ((s.reads fda).running l).completePass l :=
      State.grantLane_of_end (s := s.reads fda) hst
    rw [hgrant, State.drive_idle]
    · rfl
    · exact .inl ((State.completePass_acts (reach := 0) _ l).exec.trans hx)
  · rw [exec_grant hl hx hb]
    have hgrant : (s.reads fda).giveGrant (.lane l) = _ := State.grantLane_of_break (s := s.reads fda) hst hp
    rw [hgrant, State.drive_idle]
    · rfl
    · exact .inl ((State.queueOwner_acts (reach := 0) _ l _).exec.trans hx)
  · rw [exec_grant hl hx hb]
    have hgrant : (s.reads fda).giveGrant (.lane l) = _ :=
      State.grantLane_past_break (s := s.reads fda) hst hp hn (by rw [hseg]; simp)
    let v : State := pointed.setLane l { x with run := .running, position := x.position + 1, pending := false, held := none }
    have hc' : { v with exec := some waits }.carries waits data := by
      have hmoved : (s.setLane l { x with position := x.position + 1 }).lane l = { x with position := x.position + 1 } :=
        State.lane_setLane_self ..
      refine Iff.mpr (State.carries_setLane (s := s.setLane l { x with position := x.position + 1 }) (l := l)
        (x := { x with run := .running, position := x.position + 1, pending := false, held := none }) rfl rfl ?_ rfl
        ?_ ?_ ?_ ?_) hc
      · rw [State.setLane_setLane]
        rfl
      all_goals rw [hmoved]
    rw [hgrant]
    exact State.drive_granted (v := v) (g := waits) hl (State.failsCheck_of_carries hsil hc') hc' hseg
  · rw [fails hl hx hb hst hends (k := 511) rfl, State.laneStepEnd_halt (s := v) (by rw [hlane]; simp) (notDone hends)
      (by rw [hlane]; exact hpol) (by rw [hlane]), hwrite, hlane, State.drive_idle _ _ (.inl ((hfree _ _).trans hx))]
  · rw [fails hl hx hb hst hends hk, State.laneStepEnd_skip (s := v) (by rw [hlane]; simp) (notDone hends)
      (by rw [hlane]; exact hpol), hwrite, hlane]
  · rw [exec_grant hl hx hb]
    have hgrant : (s.reads fda).giveGrant (.direct h) = { directed with exec := some { d with inFlight := false } } :=
      State.grantDirect_of_head (s := s.reads fda) hq
    have hc' : { directed with exec := some { d with inFlight := false } }.carries { d with inFlight := false } data :=
      (State.carries_of_same rfl rfl (fun _ => rfl) (fun _ => rfl) (fun _ => rfl) (fun _ => rfl) rfl).mpr hc
    rw [hgrant]
    exact State.drive_granted hl (State.failsCheck_of_carries hsil hc') hc' hseg
  · have hdrop : { directed with exec := some { d with inFlight := false } }.stepEnd { d with inFlight := false } .stationSilent []
        = (directed.settleToggle r.step r.fullySent).directDone h { d with inFlight := false } .stationSilent [] := by
      rw [State.stepEnd_direct (h := h) _ _ rfl]
      show ({ directed with exec := none }.settleToggle r.step r.fullySent).directDone _ _ _ _ = _
      rw [State.with_exec_none (s := directed) hx]
    have hgrant : (s.reads fda).giveGrant (.direct h) = { directed with exec := some { d with inFlight := false } } :=
      State.grantDirect_of_head (s := s.reads fda) hq
    have hfail : { directed with exec := some { d with inFlight := false } }.failsCheck { d with inFlight := false }
        = some .stationSilent :=
      State.failsCheck_of_silent (data := []) (by simp [d]) hsil (.inl (Step.copies_of_direct hkind))
    have hq' : (directed.settleToggle r.step r.fullySent).directQueue h = r :: rest :=
      (State.settleToggle_directQueue _ _ _ h).trans hq
    rw [exec_grant hl hx hb, hgrant, show driveRounds = 511 + 1 from rfl,
      State.drive_of_fails (s := { directed with exec := some { d with inFlight := false } }) rfl hl 511 hfail, hdrop,
      State.directDone_of_head hq', if_neg (by simp), State.drive_idle]
    left
    rw [State.queueEvent_eq]
    exact (State.settleToggle_acts (reach := 0) _ _ _).exec.trans hx
  · rw [exec_grant hl hx hb]
    have hc : { probed with exec := some { p with inFlight := false } }.carries { p with inFlight := false } data := hdata
    have hgrant : (s.reads fda).giveGrant (.probe seg n) = { probed with exec := some { p with inFlight := false } } := rfl
    rw [hgrant]
    exact State.drive_granted hl (State.failsCheck_of_probe rfl) hc rfl
  · show execGrant fda s = _
    unfold execGrant
    split
    · rw [if_neg (by simp [hg])]
    · rfl

end Sys2Proof.Machine
end


section
/-! SUPPORT. What the orphaning of a lane leaves, in one equation: its record, the grant, and the toggles of the steps that
end with it. -/

set_option Elab.async false

namespace Sys2Proof.Machine

/-! ### Toggles settled one after the other -/

/-- The toggles of steps that end, each with its fully-sent mark, settled in order (R98). -/
def State.settleAll (s : State) (ended : List (Step × Bool)) : State :=
  ended.foldl (fun u p => u.settleToggle p.1 p.2) s

/-- The end of a step, with its fully-sent mark, flips the toggle of a station. -/
def flipsAt (seg : SegmentId) (n : StationId) (p : Step × Bool) : Bool :=
  p.2 && match p.1 with
    | .write a b .. => a == seg && b == n
    | .copy a b .. => a == seg && b == n
    | _ => false

section
variable {s t : State}

theorem flipsAt_eq (seg : SegmentId) (n : StationId) (st : Step) (sent : Bool) :
    flipsAt seg n (st, sent) = (sent && decide (st.toggles = some (seg, n))) := by
  cases st <;> simp [flipsAt, Step.toggles, Bool.decide_and] <;> rfl

theorem State.settleToggle_flips (st : Step) (sent : Bool) (seg : SegmentId) (n : StationId) :
    (s.settleToggle st sent).station seg n = { s.station seg n with
      toggle := if flipsAt seg n (st, sent) then !(s.station seg n).toggle else (s.station seg n).toggle } := by
  rw [flipsAt_eq]
  unfold State.settleToggle
  cases ht : st.toggles with
  | none => simp
  | some a =>
    obtain ⟨g, m⟩ := a
    cases sent with
    | false => simp
    | true =>
      by_cases e : g = seg ∧ m = n
      · obtain ⟨rfl, rfl⟩ := e
        simp [State.station_setStation_self]
      · have hne : (g, m) ≠ (seg, n) := fun h => e (Prod.mk.injEq .. ▸ h)
        have hst : (s.setStation g m { s.station g m with toggle := !(s.station g m).toggle }).station seg n = s.station seg n :=
          State.station_setStation_ne _ _ (not_and_or.mp e)
        simp only [if_true, hst, Option.some.injEq, hne, decide_false, Bool.and_false, Bool.false_eq_true, if_false]

theorem State.settleToggle_stations (h : t.stations = s.stations) (st : Step) (sent : Bool) :
    (t.settleToggle st sent).stations = (s.settleToggle st sent).stations := by
  have hstation (g : SegmentId) (m : StationId) : t.station g m = s.station g m := by
    unfold State.station
    rw [h]
  unfold State.settleToggle
  cases st.toggles with
  | none => exact h
  | some a =>
    cases sent with
    | false => exact h
    | true =>
      show (t.setStation _ _ _).stations = (s.setStation _ _ _).stations
      rw [hstation]
      unfold State.setStation
      rw [h]

theorem State.settleAll_append (a b : List (Step × Bool)) : s.settleAll (a ++ b) = (s.settleAll a).settleAll b :=
  List.foldl_append

theorem State.settleAll_eq (ended : List (Step × Bool)) :
    s.settleAll ended = { s with stations := (s.settleAll ended).stations } := by
  induction ended generalizing s with
  | nil => rfl
  | cons p rest ih =>
    show (s.settleToggle p.1 p.2).settleAll rest = { s with stations := ((s.settleToggle p.1 p.2).settleAll rest).stations }
    rw [ih, State.settleToggle_eq]

theorem State.settleAll_stations (h : t.stations = s.stations) (ended : List (Step × Bool)) :
    (t.settleAll ended).stations = (s.settleAll ended).stations := by
  induction ended generalizing s t with
  | nil => exact h
  | cons p rest ih => exact ih (State.settleToggle_stations h p.1 p.2)

/-- A station's toggle after the ends of steps: flipped as often as one of them flips it (R98). -/
theorem State.settleAll_station (ended : List (Step × Bool)) (seg : SegmentId) (n : StationId) :
    (s.settleAll ended).station seg n = { s.station seg n with
      toggle := if ended.countP (flipsAt seg n) % 2 = 1 then !(s.station seg n).toggle else (s.station seg n).toggle } := by
  induction ended generalizing s with
  | nil => rfl
  | cons p rest ih =>
    have hp := s.settleToggle_flips p.1 p.2 seg n
    show ((s.settleToggle p.1 p.2).settleAll rest).station seg n = _
    rw [ih, hp, List.countP_cons]
    cases flipsAt seg n p with
    | false => simp
    | true =>
      obtain hm | hm : rest.countP (flipsAt seg n) % 2 = 0 ∨ rest.countP (flipsAt seg n) % 2 = 1 := by omega
      · simp [hm, Nat.add_mod]
      · simp [hm, Nat.add_mod]

end

/-! ### One lane -/

/-- A lane record as the loss of its owner leaves it, by its run state (R35, R36, R41). -/
def Lane.orphaned (x : Lane) (inFlight : Bool) : Lane :=
  match x.run with
  | .idle | .stopping => { x with condition := .orphan }
  | .armed => { x with condition := .orphan, run := .idle }
  | .halted => { x with condition := .orphan, run := .idle, position := 0 }
  | .running =>
    if inFlight then { x with condition := .orphan, run := .stopping } else { x with condition := .orphan }.stopped
  | .bankWait | .ready | .suspended | .retryWait | .atBreak => { x with condition := .orphan }.stopped

/-- The step a lane holds through a retry wait, as an end of it settles its toggle (R23, R98). -/
def State.heldEnd (s : State) (l : LaneId) : List (Step × Bool) :=
  match (s.lane l).held, (s.lane l).program[(s.lane l).position]? with
  | some k, some st => [(st, k.fullySent)]
  | _, _ => []

/-- The step of a RUNNING lane with no attempt in flight, as its stop ends it (R36, R98). -/
def State.grantEnd (s : State) (l : LaneId) : List (Step × Bool) :=
  match s.exec with
  | some e => if e.holder = .lane l ∧ (s.lane l).run = .running ∧ e.inFlight = false then [(e.step, e.fullySent)] else []
  | none => []

/-- The grant that the stop of a lane leaves (R36). -/
def State.grantAfter (s : State) (l : LaneId) : Option Execution :=
  match s.exec with
  | some e => if e.holder = .lane l ∧ (s.lane l).run = .running ∧ e.inFlight = false then none else some e
  | none => none

/-- What the loss of a lane leaves of the state, before the ports are told (R41). -/
def State.orphaned (s : State) (h : HostId) (l : LaneId) : State :=
  { s with
    usage := put s.usage h (s.usageOf h - (s.lane l).program.length)
    lanes := put s.lanes l ((s.lane l).orphaned (s.laneInFlight l))
    exec := s.grantAfter l
    stations := (s.settleAll (s.heldEnd l ++ s.grantEnd l)).stations }

section
variable {s : State} {l : LaneId}

theorem State.heldEnd_of_none (h : (s.lane l).held = none) : s.heldEnd l = [] := by
  unfold State.heldEnd
  rw [h]

theorem State.settleHeld_eq_settleAll : s.settleHeld l = s.settleAll (s.heldEnd l) := by
  unfold State.settleHeld State.heldEnd
  dsimp only
  cases (s.lane l).held with
  | none => rfl
  | some k => cases (s.lane l).program[(s.lane l).position]? <;> rfl

/-- A stop that ends no step in execution keeps the grant. -/
theorem State.grant_of_kept (h : (s.lane l).run = .running → s.laneInFlight l = true) :
    s.grantEnd l = [] ∧ s.grantAfter l = s.exec := by
  unfold State.grantEnd State.grantAfter
  cases he : s.exec with
  | none => exact ⟨rfl, rfl⟩
  | some e =>
    have hno : ¬ (e.holder = .lane l ∧ (s.lane l).run = .running ∧ e.inFlight = false) := by
      rintro ⟨hh, hr, hf⟩
      have := h hr
      rw [State.laneInFlight_of_exec he hh, hf] at this
      exact absurd this (by decide)
    exact ⟨if_neg hno, if_neg hno⟩

/-- A lane without its owner, stopped (R41). -/
theorem State.orphan_eq {h : HostId} (hs : s.LanesOk) : s.orphan h l = s.orphaned h l := by
  let d := s.disown h l
  have hd : d.lane l = { s.lane l with condition := .orphan } := State.lane_setLane_self ..
  have hset (x : Lane) : d.setLane l x = { s with
      usage := put s.usage h (s.usageOf h - (s.lane l).program.length), lanes := put s.lanes l x } := by
    rw [show d.setLane l x = (s.loseUsage h (s.lane l).program.length).setLane l x from State.setLane_setLane ..]
    rfl
  have horphan : s.orphan h l = d.stopLane l := rfl
  rw [horphan]
  have kept (hrun : (s.lane l).run = .running → s.laneInFlight l = true) (hheld : (s.lane l).held = none)
      (hstop : d.stopLane l = d.setLane l ((s.lane l).orphaned (s.laneInFlight l))) : d.stopLane l = s.orphaned h l := by
    obtain ⟨hend, hafter⟩ := State.grant_of_kept hrun
    rw [hstop, hset, State.orphaned, hend, hafter, State.heldEnd_of_none hheld]
    rfl
  have hx := hs.base.lanes l
  have hrun {r : RunState} (hr : (s.lane l).run = r) : (d.lane l).run = r := by
    rw [hd]
    exact hr
  -- a pass not on the line
  have waiting (hr : (s.lane l).run = .bankWait ∨ (s.lane l).run = .ready ∨ (s.lane l).run = .suspended
      ∨ (s.lane l).run = .retryWait ∨ (s.lane l).run = .atBreak)
      (ho : (s.lane l).orphaned (s.laneInFlight l) = { s.lane l with condition := .orphan }.stopped) : d.stopLane l = s.orphaned h l := by
    have hne : (s.lane l).run ≠ .running := by
      intro e
      rw [e] at hr
      simp at hr
    obtain ⟨hend, hafter⟩ := State.grant_of_kept (l := l) fun e => absurd e hne
    have hheld : d.heldEnd l = s.heldEnd l := by
      unfold State.heldEnd
      rw [hd]
    rw [State.stopLane_of_waiting (by rw [hd]; exact hr), State.stopAtOnce_of_none (by rw [hd]; rfl),
      State.settleHeld_eq_settleAll, hheld, State.settleAll_eq, State.settleAll_stations (s := s) (t := d) rfl, State.orphaned, hend, hafter,
      List.append_nil, hd, ho]
    exact congrArg (fun u : State => { u with stations := (s.settleAll (s.heldEnd l)).stations })
      (hset { s.lane l with condition := .orphan }.stopped)
  cases hr : (s.lane l).run with
  | idle =>
    refine kept (by simp [hr]) (hx.held_eq_none (by simp [hr])) ?_
    rw [State.stopLane_of_still (.inl (hrun hr)), show (s.lane l).orphaned _ = d.lane l by simp only [Lane.orphaned, hr, hd],
      State.setLane_lane]
  | stopping =>
    refine kept (by simp [hr]) (hx.held_eq_none (by simp [hr])) ?_
    rw [State.stopLane_of_still (.inr (hrun hr)), show (s.lane l).orphaned _ = d.lane l by simp only [Lane.orphaned, hr, hd],
      State.setLane_lane]
  | armed =>
    refine kept (by simp [hr]) (hx.held_eq_none (by simp [hr])) ?_
    rw [State.stopLane_of_armed (hrun hr), hd]
    simp only [Lane.orphaned, hr]
  | halted =>
    refine kept (by simp [hr]) (hx.held_eq_none (by simp [hr])) ?_
    rw [State.stopLane_of_halted (hrun hr), hd]
    simp only [Lane.orphaned, hr]
  | running =>
    have hheld := hx.held_eq_none (by simp [hr])
    obtain ⟨e, he, hh⟩ : ∃ e, s.exec = some e ∧ e.holder = .lane l := by
      have hany := (hs.runs_iff l).mp (.inl hr)
      cases he : s.exec with
      | none => simp [he] at hany
      | some e => exact ⟨e, rfl, by simpa [he] using hany⟩
    have hflight : s.laneInFlight l = e.inFlight := State.laneInFlight_of_exec he hh
    cases hf : e.inFlight with
    | true =>
      refine kept (fun _ => hflight.trans hf) hheld ?_
      rw [State.stopLane_of_inFlight (hrun hr) (hflight.trans hf), hd]
      simp only [Lane.orphaned, hr, hflight, hf, if_true]
    | false =>
      have hends : s.grantEnd l = [(e.step, e.fullySent)] ∧ s.grantAfter l = none := by
        simp [State.grantEnd, State.grantAfter, he, hh, hr, hf]
      obtain ⟨hend, hafter⟩ := hends
      have ho : (s.lane l).orphaned (s.laneInFlight l) = { s.lane l with condition := .orphan }.stopped := by
        simp [Lane.orphaned, hr, hflight, hf]
      let v := d.settleToggle e.step e.fullySent
      have hv : v.lane l = { s.lane l with condition := .orphan } := (d.settleToggle_lane _ _ l).trans hd
      have hquiet (k : HostId) : (((v.setLane l (v.lane l).stopped).releaseLane l).port k).waitsFor ≠ some (.laneStop l) := by
        rw [State.releaseLane_of_holder (s := v.setLane l (v.lane l).stopped) (e := e) ?_ hh]
        · intro hw
          have hw' : (s.port k).waitsFor = some (.laneStop l) :=
            (congrArg Port.waitsFor (d.settleToggle_port e.step e.fullySent k)).symm.trans hw
          have := hs.base.held k l hw'
          rw [hr] at this
          exact absurd this (by decide)
        · exact (d.settleToggle_aside _ _).exec.trans he
      rw [State.stopLane_of_not_inFlight (hrun hr) (hflight.trans hf), State.settleStopped_of_holder (s := d) he hh,
        State.leaveStopping_of_none (s := v) (by rw [hv]; rfl) (by rw [hv]; exact hheld), State.readyHeld_of_none hquiet,
        State.releaseLane_of_holder (s := v.setLane l (v.lane l).stopped) (e := e) ((d.settleToggle_aside _ _).exec.trans he) hh,
        hv, State.orphaned, hend, hafter, State.heldEnd_of_none hheld, ho, List.nil_append]
      have hstations : v.stations = (s.settleAll [(e.step, e.fullySent)]).stations :=
        State.settleToggle_stations (s := s) (t := d) rfl _ _
      rw [show v = { d with stations := v.stations } from d.settleToggle_eq _ _, hstations]
      exact congrArg (fun u : State => { u with exec := none, stations := (s.settleAll [(e.step, e.fullySent)]).stations })
        (hset { s.lane l with condition := .orphan }.stopped)
  | bankWait => exact waiting (.inl hr) (by simp only [Lane.orphaned, hr])
  | ready => exact waiting (.inr (.inl hr)) (by simp only [Lane.orphaned, hr])
  | suspended => exact waiting (.inr (.inr (.inl hr))) (by simp only [Lane.orphaned, hr])
  | retryWait => exact waiting (.inr (.inr (.inr (.inl hr)))) (by simp only [Lane.orphaned, hr])
  | atBreak => exact waiting (.inr (.inr (.inr (.inr hr)))) (by simp only [Lane.orphaned, hr])

end

end Sys2Proof.Machine
end


section
/-! SUPPORT. The orphaning of every lane of a host: the lanes, the grant, the toggles, the usage and the events after it. -/

set_option Elab.async false

namespace Sys2Proof.Machine

/-! ### One lane, if it is the host's -/

/-- The stop of a host's lane ends its step in execution off the line. -/
def State.Drops (s : State) (h : HostId) (l : LaneId) : Prop :=
  ∃ e, s.exec = some e ∧ e.holder = .lane l ∧ (s.lane l).owner = some h ∧ (s.lane l).run = .running ∧ e.inFlight = false

/-- The steps that end with a host's lane, each with its fully-sent mark. -/
def State.orphanEnds (s : State) (h : HostId) (l : LaneId) : List (Step × Bool) :=
  if (s.lane l).owner ≠ some h then [] else s.heldEnd l ++ s.grantEnd l

section
variable {s : State} {h : HostId} {l : LaneId}

theorem State.orphanIfOwned_of_stranger (ho : (s.lane l).owner ≠ some h) : s.orphanIfOwned h l = s := if_neg ho

section
variable (hs : s.LanesOk)
include hs

theorem State.orphanIfOwned_of_owner (ho : (s.lane l).owner = some h) : s.orphanIfOwned h l
    = { s.orphaned h l with mail := (s.queueAll (.laneOrphaned l)).mail } := by
  have hq : s.orphanIfOwned h l = (s.orphan h l).queueAll (.laneOrphaned l) := if_pos ho
  rw [hq, State.orphan_eq hs, State.queueAll_of_same (s := s) (u := s.orphaned h l) rfl rfl rfl]

/-- What the orphaning of one lane leaves alone. -/
theorem State.orphanIfOwned_frame : s.orphanIfOwned h l = { s with
    usage := (s.orphanIfOwned h l).usage
    lanes := (s.orphanIfOwned h l).lanes
    exec := (s.orphanIfOwned h l).exec
    stations := (s.orphanIfOwned h l).stations
    mail := (s.orphanIfOwned h l).mail } := by
  by_cases ho : (s.lane l).owner = some h
  · rw [State.orphanIfOwned_of_owner hs ho]
    rfl
  · rw [State.orphanIfOwned_of_stranger ho]

theorem State.orphanIfOwned_lane (m : LaneId) : (s.orphanIfOwned h l).lane m
    = if l = m ∧ (s.lane m).owner = some h then (s.lane m).orphaned (s.laneInFlight m) else s.lane m := by
  by_cases ho : (s.lane l).owner = some h
  · rw [State.orphanIfOwned_of_owner hs ho]
    by_cases e : l = m
    · subst e
      rw [if_pos ⟨rfl, ho⟩]
      exact look_put_self ..
    · rw [if_neg fun h => e h.1]
      exact look_put_ne _ _ e
  · rw [State.orphanIfOwned_of_stranger ho, if_neg]
    rintro ⟨rfl, ho'⟩
    exact ho ho'

theorem State.orphanIfOwned_exec : (s.Drops h l → (s.orphanIfOwned h l).exec = none)
    ∧ (¬ s.Drops h l → (s.orphanIfOwned h l).exec = s.exec) := by
  by_cases ho : (s.lane l).owner = some h
  · rw [State.orphanIfOwned_of_owner hs ho]
    show (_ → s.grantAfter l = none) ∧ (_ → s.grantAfter l = s.exec)
    unfold State.grantAfter
    refine ⟨fun ⟨e, he, hh, _, hr, hf⟩ => ?_, fun hno => ?_⟩
    · rw [he]
      exact if_pos ⟨hh, hr, hf⟩
    · cases he : s.exec with
      | none => rfl
      | some e => exact if_neg fun ⟨hh, hr, hf⟩ => hno ⟨e, he, hh, ho, hr, hf⟩
  · rw [State.orphanIfOwned_of_stranger ho]
    exact ⟨fun ⟨_, _, _, ho', _⟩ => absurd ho' ho, fun _ => rfl⟩

theorem State.orphanIfOwned_stations :
    (s.orphanIfOwned h l).stations = (s.settleAll (s.orphanEnds h l)).stations := by
  unfold State.orphanEnds
  by_cases ho : (s.lane l).owner = some h
  · rw [State.orphanIfOwned_of_owner hs ho, if_neg (not_not_intro ho)]
    rfl
  · rw [State.orphanIfOwned_of_stranger ho, if_pos ho]
    rfl

theorem State.orphanIfOwned_usage (k : HostId) : (s.orphanIfOwned h l).usageOf k
    = if h = k then s.usageOf k - (if (s.lane l).owner = some h then (s.lane l).program.length else 0) else s.usageOf k := by
  by_cases ho : (s.lane l).owner = some h
  · rw [State.orphanIfOwned_of_owner hs ho, if_pos ho]
    unfold State.usageOf
    show look (put s.usage h _) k = _
    rw [look_put]
    split
    · subst_vars
      rfl
    · rfl
  · rw [State.orphanIfOwned_of_stranger ho, if_neg ho]
    split <;> rfl

theorem State.orphanIfOwned_mailbox (k : HostId) : (s.orphanIfOwned h l).mailbox k
    = if (s.lane l).owner = some h ∧ s.inReset k = false then (s.mailbox k).record ⟨s.timestamp, .laneOrphaned l⟩
      else s.mailbox k := by
  by_cases ho : (s.lane l).owner = some h
  · rw [State.orphanIfOwned_of_owner hs ho]
    simp only [ho, true_and]
    exact s.queueAll_mailbox k _
  · rw [State.orphanIfOwned_of_stranger ho, if_neg fun h => ho h.1]

/-! What the other lanes see of it. -/

variable {m : LaneId} (hm : l ≠ m)
include hm

theorem State.orphanIfOwned_other : (s.orphanIfOwned h l).lane m = s.lane m := by
  rw [State.orphanIfOwned_lane hs, if_neg fun h => hm h.1]

/-- A step that another lane has in execution stays in it. -/
theorem State.orphanIfOwned_exec_iff {e : Execution} (hh : e.holder = .lane m) :
    (s.orphanIfOwned h l).exec = some e ↔ s.exec = some e := by
  obtain ⟨hdrop, hkeep⟩ := State.orphanIfOwned_exec (h := h) (l := l) hs
  by_cases hd : s.Drops h l
  · rw [hdrop hd]
    obtain ⟨f, hf, hl, -⟩ := hd
    rw [hf]
    constructor
    · exact fun h => nomatch h
    · rintro ⟨⟩
      exact absurd (hl.symm.trans hh) (by simpa using hm)
  · rw [hkeep hd]

theorem State.orphanIfOwned_laneInFlight : (s.orphanIfOwned h l).laneInFlight m = s.laneInFlight m := by
  have inFlight (u : State) : u.laneInFlight m = true ↔ ∃ e, u.exec = some e ∧ e.holder = .lane m ∧ e.inFlight = true := by
    unfold State.laneInFlight
    cases u.exec <;> simp
  rw [Bool.eq_iff_iff, inFlight, inFlight]
  refine exists_congr fun e => ⟨fun ⟨he, hh, hf⟩ => ⟨?_, hh, hf⟩, fun ⟨he, hh, hf⟩ => ⟨?_, hh, hf⟩⟩
  · exact (State.orphanIfOwned_exec_iff hs hm hh).mp he
  · exact (State.orphanIfOwned_exec_iff hs hm hh).mpr he

theorem State.orphanIfOwned_drops (k : HostId) : (s.orphanIfOwned h l).Drops k m ↔ s.Drops k m := by
  unfold State.Drops
  rw [State.orphanIfOwned_other hs hm]
  refine exists_congr fun e => ⟨fun ⟨he, hh, hr⟩ => ⟨?_, hh, hr⟩, fun ⟨he, hh, hr⟩ => ⟨?_, hh, hr⟩⟩
  · exact (State.orphanIfOwned_exec_iff hs hm hh).mp he
  · exact (State.orphanIfOwned_exec_iff hs hm hh).mpr he

theorem State.orphanIfOwned_grantEnd : (s.orphanIfOwned h l).grantEnd m = s.grantEnd m := by
  obtain ⟨hdrop, hkeep⟩ := State.orphanIfOwned_exec (h := h) (l := l) hs
  unfold State.grantEnd
  rw [State.orphanIfOwned_other hs hm]
  by_cases hd : s.Drops h l
  · rw [hdrop hd]
    obtain ⟨e, he, hl, -⟩ := hd
    rw [he]
    refine (if_neg ?_).symm
    rintro ⟨hh, -⟩
    exact absurd (hl.symm.trans hh) (by simpa using hm)
  · rw [hkeep hd]

theorem State.orphanIfOwned_orphanEnds (k : HostId) : (s.orphanIfOwned h l).orphanEnds k m = s.orphanEnds k m := by
  unfold State.orphanEnds State.heldEnd
  rw [State.orphanIfOwned_other hs hm, State.orphanIfOwned_grantEnd hs hm]

end

end

/-! ### All lanes of a list -/

/-- The lanes of a list taken from a host, in turn (R41). -/
def State.orphanAll (s : State) (h : HostId) (ls : List LaneId) : State := ls.foldl (fun u l => u.orphanIfOwned h l) s

section
variable {h : HostId} {ls : List LaneId}

theorem State.orphanAll_frame {s : State} (hs : s.LanesOk) : s.orphanAll h ls = { s with
    usage := (s.orphanAll h ls).usage
    lanes := (s.orphanAll h ls).lanes
    exec := (s.orphanAll h ls).exec
    stations := (s.orphanAll h ls).stations
    mail := (s.orphanAll h ls).mail } := by
  induction ls generalizing s with
  | nil => rfl
  | cons l rest ih =>
    let t := (s.orphanIfOwned h l).orphanAll h rest
    refine (ih (State.orphanIfOwned_lanesOk hs h l)).trans (congrArg (fun u : State => { u with
      usage := t.usage
      lanes := t.lanes
      exec := t.exec
      stations := t.stations
      mail := t.mail }) (State.orphanIfOwned_frame hs))

variable (hn : ls.Nodup)
include hn

theorem State.orphanAll_lane {s : State} (hs : s.LanesOk) (m : LaneId) : (s.orphanAll h ls).lane m
    = if m ∈ ls ∧ (s.lane m).owner = some h then (s.lane m).orphaned (s.laneInFlight m) else s.lane m := by
  induction ls generalizing s with
  | nil => rfl
  | cons l rest ih =>
    obtain ⟨hl, hn⟩ := List.nodup_cons.mp hn
    show ((s.orphanIfOwned h l).orphanAll h rest).lane m = _
    rw [ih hn (State.orphanIfOwned_lanesOk hs h l)]
    by_cases e : l = m
    · subst e
      rw [if_neg fun h => hl h.1, State.orphanIfOwned_lane hs]
      simp
    · rw [State.orphanIfOwned_other hs e, State.orphanIfOwned_laneInFlight hs e]
      simp [Ne.symm e]

theorem State.orphanAll_exec {s : State} (hs : s.LanesOk) :
    ((∃ l ∈ ls, s.Drops h l) → (s.orphanAll h ls).exec = none)
      ∧ ((∀ l ∈ ls, ¬ s.Drops h l) → (s.orphanAll h ls).exec = s.exec) := by
  induction ls generalizing s with
  | nil => exact ⟨fun ⟨_, hl, _⟩ => absurd hl (by simp), fun _ => rfl⟩
  | cons l rest ih =>
    obtain ⟨hl, hn⟩ := List.nodup_cons.mp hn
    obtain ⟨hdrop, hkeep⟩ := State.orphanIfOwned_exec (h := h) (l := l) hs
    obtain ⟨ihdrop, ihkeep⟩ := ih hn (State.orphanIfOwned_lanesOk hs h l)
    have other {m : LaneId} (hm : m ∈ rest) : (s.orphanIfOwned h l).Drops h m ↔ s.Drops h m :=
      State.orphanIfOwned_drops hs (ne_of_mem_of_not_mem hm hl).symm h
    refine ⟨fun ⟨m, hm, hd⟩ => ?_, fun hno => ?_⟩
    · obtain rfl | hm := List.mem_cons.mp hm
      · have hnone := hdrop hd
        refine (ihkeep fun k _ ⟨e, he, _⟩ => ?_).trans hnone
        rw [hnone] at he
        cases he
      · exact ihdrop ⟨m, hm, (other hm).mpr hd⟩
    · refine (ihkeep fun m hm hd => hno m (List.mem_cons_of_mem _ hm) ((other hm).mp hd)).trans ?_
      exact hkeep (hno l List.mem_cons_self)

theorem State.orphanAll_stations {s : State} (hs : s.LanesOk) :
    (s.orphanAll h ls).stations = (s.settleAll (ls.flatMap (s.orphanEnds h))).stations := by
  induction ls generalizing s with
  | nil => rfl
  | cons l rest ih =>
    obtain ⟨hl, hn⟩ := List.nodup_cons.mp hn
    show ((s.orphanIfOwned h l).orphanAll h rest).stations = _
    have hends : rest.flatMap ((s.orphanIfOwned h l).orphanEnds h) = rest.flatMap (s.orphanEnds h) :=
      List.flatMap_congr fun m hm => State.orphanIfOwned_orphanEnds hs (ne_of_mem_of_not_mem hm hl).symm h
    rw [ih hn (State.orphanIfOwned_lanesOk hs h l), hends, List.flatMap_cons, State.settleAll_append]
    exact State.settleAll_stations (State.orphanIfOwned_stations hs) _

theorem State.orphanAll_usage {s : State} (hs : s.LanesOk) (k : HostId) : (s.orphanAll h ls).usageOf k
    = if h = k then
        s.usageOf k - (ls.map fun l => if (s.lane l).owner = some h then (s.lane l).program.length else 0).sum
      else s.usageOf k := by
  induction ls generalizing s with
  | nil => simp [State.orphanAll]
  | cons l rest ih =>
    obtain ⟨hl, hn⟩ := List.nodup_cons.mp hn
    show ((s.orphanIfOwned h l).orphanAll h rest).usageOf k = _
    have hsame : rest.map (fun m => if ((s.orphanIfOwned h l).lane m).owner = some h then
          ((s.orphanIfOwned h l).lane m).program.length else 0)
        = rest.map fun m => if (s.lane m).owner = some h then (s.lane m).program.length else 0 :=
      List.map_congr_left fun m hm => by rw [State.orphanIfOwned_other hs (ne_of_mem_of_not_mem hm hl).symm]
    rw [ih hn (State.orphanIfOwned_lanesOk hs h l), hsame, State.orphanIfOwned_usage hs]
    split
    · rw [List.map_cons, List.sum_cons, Nat.sub_sub]
    · rfl

theorem State.orphanAll_mailbox {s : State} (hs : s.LanesOk) (k : HostId) : (s.orphanAll h ls).mailbox k
    = if s.inReset k then s.mailbox k
      else (ls.filter fun l => (s.lane l).owner = some h).foldl
        (fun m l => m.record ⟨s.timestamp, .laneOrphaned l⟩) (s.mailbox k) := by
  induction ls generalizing s with
  | nil => simp [State.orphanAll]
  | cons l rest ih =>
    obtain ⟨hl, hn⟩ := List.nodup_cons.mp hn
    show ((s.orphanIfOwned h l).orphanAll h rest).mailbox k = _
    have hsame : rest.filter (fun m => ((s.orphanIfOwned h l).lane m).owner = some h)
        = rest.filter fun m => (s.lane m).owner = some h :=
      List.filter_congr fun m hm => by rw [State.orphanIfOwned_other hs (ne_of_mem_of_not_mem hm hl).symm]
    have hreset : (s.orphanIfOwned h l).inReset k = s.inReset k := by
      rw [State.orphanIfOwned_frame hs]
      rfl
    have htime : (s.orphanIfOwned h l).timestamp = s.timestamp := by
      rw [State.orphanIfOwned_frame hs]
    rw [ih hn (State.orphanIfOwned_lanesOk hs h l), hsame, hreset, htime, State.orphanIfOwned_mailbox hs, List.filter_cons]
    cases s.inReset k with
    | true => simp
    | false =>
      by_cases ho : (s.lane l).owner = some h <;> simp [ho]

end

end Sys2Proof.Machine
end


section
/-! SUPPORT. What a port reset does before it takes the lanes, and the statement about port resets. -/

set_option Elab.async false

namespace Sys2Proof.Machine

/-! ### The direct queue emptied -/

/-- The direct step that ends as a host's queue is emptied, with its fully-sent mark (R78, R98, log 15). -/
def State.directEnds (s : State) (h : HostId) : List (Step × Bool) :=
  match s.directQueue h, s.exec with
  | [], _ => []
  | r :: _, none => [(r.step, r.fullySent)]
  | r :: _, some e =>
    if e.holder ≠ .direct h then [(r.step, r.fullySent)] else if e.inFlight then [] else [(e.step, e.fullySent)]

/-- The grant as the emptying of a host's queue leaves it: a direct attempt in flight goes on as a discarded one (R78). -/
def State.directGrant (s : State) (h : HostId) : Option Execution :=
  match s.directQueue h, s.exec with
  | _, none => none
  | [], some e => some e
  | _ :: _, some e =>
    if e.holder ≠ .direct h then some e else if e.inFlight then some { e with holder := .discarded } else none

section
variable {s t : State} {h : HostId}

theorem State.directEnds_of_same (hx : t.exec = s.exec) (hq : t.directQueue h = s.directQueue h) :
    t.directEnds h = s.directEnds h := by
  unfold State.directEnds
  rw [hx, hq]

theorem State.directGrant_of_same (hx : t.exec = s.exec) (hq : t.directQueue h = s.directQueue h) :
    t.directGrant h = s.directGrant h := by
  unfold State.directGrant
  rw [hx, hq]

theorem State.emptyDirect_of_nil (hq : s.directQueue h = []) : s.emptyDirect h = s.setDirectQueue h [] := by
  simp only [State.emptyDirect, hq]

section
variable {r : DirectRequest} {rest : List DirectRequest} (hq : s.directQueue h = r :: rest)
include hq

/-- The head of the queue is not in execution: its step ends. -/
theorem State.emptyDirect_of_waiting (hx : ∀ e, s.exec = some e → e.holder ≠ .direct h) :
    s.emptyDirect h = (s.setDirectQueue h []).settleToggle r.step r.fullySent
      ∧ s.directEnds h = [(r.step, r.fullySent)] ∧ s.directGrant h = s.exec := by
  cases he : s.exec with
  | none => simp [State.emptyDirect, State.directEnds, State.directGrant, hq, he]
  | some e => simp [State.emptyDirect, State.directEnds, State.directGrant, hq, he, hx e he]

theorem State.emptyDirect_of_holder {e : Execution} (he : s.exec = some e) (hh : e.holder = .direct h) :
    (e.inFlight = true → s.emptyDirect h = { s.setDirectQueue h [] with exec := some { e with holder := .discarded } }
      ∧ s.directEnds h = [] ∧ s.directGrant h = some { e with holder := .discarded })
    ∧ (e.inFlight = false → s.emptyDirect h = { s.setDirectQueue h [] with exec := none }.settleToggle e.step e.fullySent
      ∧ s.directEnds h = [(e.step, e.fullySent)] ∧ s.directGrant h = none) := by
  refine ⟨fun hf => ?_, fun hf => ?_⟩ <;>
    simp [State.emptyDirect, State.directEnds, State.directGrant, hq, he, hh, hf]

end

theorem State.emptyDirect_eq : s.emptyDirect h = { s with
    direct := put s.direct h []
    exec := s.directGrant h
    stations := (s.settleAll (s.directEnds h)).stations } := by
  have settled (st : Step) (sent : Bool) (x : Option Execution) :
      { s.setDirectQueue h [] with exec := x }.settleToggle st sent
        = { s with direct := put s.direct h [], exec := x, stations := (s.settleAll [(st, sent)]).stations } := by
    rw [State.settleToggle_eq, State.settleToggle_stations (s := s) (t := { s.setDirectQueue h [] with exec := x }) rfl]
    rfl
  cases hq : s.directQueue h with
  | nil =>
    have hends : s.directEnds h = [] := by simp only [State.directEnds, hq]
    have hgrant : s.directGrant h = s.exec := by
      cases hx : s.exec <;> simp only [State.directGrant, hq, hx]
    rw [State.emptyDirect_of_nil hq, hends, hgrant]
    rfl
  | cons r rest =>
    by_cases hx : ∃ e, s.exec = some e ∧ e.holder = .direct h
    · obtain ⟨e, he, hh⟩ := hx
      obtain ⟨hsent, hwaiting⟩ := State.emptyDirect_of_holder hq he hh
      cases hf : e.inFlight with
      | true =>
        obtain ⟨h1, h2, h3⟩ := hsent hf
        rw [h1, h2, h3]
        rfl
      | false =>
        obtain ⟨h1, h2, h3⟩ := hwaiting hf
        rw [h1, h2, h3]
        exact settled _ _ _
    · obtain ⟨h1, h2, h3⟩ := State.emptyDirect_of_waiting hq fun e he hh => hx ⟨e, he, hh⟩
      rw [h1, h2, h3]
      exact settled _ _ s.exec

end

/-! ### Everything but the lanes -/

theorem State.unsubscribe_lane (s : State) (h : HostId) (l m : LaneId) : (s.unsubscribe h l).lane m
    = if l = m then { s.lane m with subscribers := put (s.lane m).subscribers h false } else s.lane m := by
  unfold State.unsubscribe
  by_cases e : l = m
  · subst e
    simp
  · simp [e]

theorem State.unsubscribeAll_lane (s : State) (h : HostId) (m : LaneId) :
    (s.unsubscribeAll h).lane m = { s.lane m with subscribers := put (s.lane m).subscribers h false } := by
  unfold State.unsubscribeAll eachLane
  simp only [State.unsubscribe_lane]
  fin_cases m <;> simp

theorem State.unsubscribeAll_eq (s : State) (h : HostId) :
    s.unsubscribeAll h = { s with lanes := (s.unsubscribeAll h).lanes } :=
  State.eachLane_keeps (P := fun u => u = { s with lanes := u.lanes })
    (fun l u (hu : u = _) => (congrArg (fun v : State => { v with lanes := (u.unsubscribe h l).lanes }) hu)) rfl

/-- The state of a port reset with the port, its notifications and its subscriptions cleared (R147, R170). -/
def State.cleared (s : State) (h : HostId) : State := ((s.closePort h).setMailbox h .fresh).unsubscribeAll h

/-- The state of a port reset before the lanes of its host are taken (R170). -/
def State.vacating (s : State) (h : HostId) : State :=
  ((s.cleared h).emptyDirect h).yieldLease h

theorem eachLane_eq_foldl (f : LaneId → State → State) (s : State) :
    eachLane f s = allLanes.foldl (fun u l => f l u) s := rfl

theorem State.resetPort_eq_orphanAll (s : State) (h : HostId) : s.resetPort h = (s.vacating h).orphanAll h allLanes := by
  rw [State.resetPort_eq, eachLane_eq_foldl, State.vacating, State.cleared, State.orphanAll]

theorem State.vacating_lanesOk {s : State} (hs : s.LanesOk) (h : HostId) : (s.vacating h).LanesOk := by
  have closed : (s.closePort h).LanesOk := (Aside.setPort _ h (.inr rfl)).lanesOk (State.releasePin_lanesOk hs h)
  have cleared : ((s.closePort h).setMailbox h .fresh).LanesOk :=
    Aside.lanesOk (s := s.closePort h) (.of_eq rfl rfl rfl rfl) closed
  have left : (((s.closePort h).setMailbox h .fresh).unsubscribeAll h).LanesOk :=
    State.eachLane_keeps (P := State.LanesOk) (fun l u hu => State.unsubscribe_lanesOk hu h l) cleared
  exact (State.yieldLease_aside _ h).lanesOk (State.emptyDirect_lanesOk left h)

section
variable (s : State) (h : HostId)

/-- What the port unit and the notification unit clear, and the subscriptions: the executor, the queues and the stations stay. -/
theorem State.cleared_eq : s.cleared h = { s with
    ports := (s.closePort h).ports
    mail := put s.mail h .fresh
    lanes := (s.cleared h).lanes
    banks := (s.releasePin h).banks } := by
  have hclose : s.closePort h = { s with
      ports := (s.closePort h).ports, lanes := (s.releasePin h).lanes, banks := (s.releasePin h).banks } := by
    have hp := congrArg (fun u : State => { u with ports := (s.closePort h).ports }) (s.releasePin_eq h)
    exact hp
  have hmail := congrArg (fun u : State => { u with
    mail := put u.mail h .fresh, lanes := (s.cleared h).lanes }) hclose
  exact (State.unsubscribeAll_eq _ h).trans hmail

theorem State.yieldLease_eq : s.yieldLease h = { s with
    lease := if s.lease = some h then none else s.lease
    leaseLeft := if s.lease = some h then 0 else s.leaseLeft } := by
  unfold State.yieldLease
  split <;> rfl

theorem State.vacating_eq : s.vacating h = { s with
    ports := (s.closePort h).ports
    mail := put s.mail h .fresh
    lanes := (s.cleared h).lanes
    banks := (s.releasePin h).banks
    direct := put s.direct h []
    exec := s.directGrant h
    stations := (s.settleAll (s.directEnds h)).stations
    lease := if s.lease = some h then none else s.lease
    leaseLeft := if s.lease = some h then 0 else s.leaseLeft } := by
  unfold State.vacating
  have hv := s.cleared_eq h
  generalize s.cleared h = v at hv ⊢
  have hx : v.exec = s.exec := by rw [hv]
  have hq : v.directQueue h = s.directQueue h := by rw [hv]; rfl
  have hst : v.stations = s.stations := by rw [hv]
  rw [State.yieldLease_eq, State.emptyDirect_eq, State.directGrant_of_same hx hq, State.directEnds_of_same hx hq,
    State.settleAll_stations hst]
  exact congrArg (fun u : State => { u with
    lanes := v.lanes
    direct := put u.direct h []
    exec := s.directGrant h
    stations := (s.settleAll (s.directEnds h)).stations
    lease := if u.lease = some h then none else u.lease
    leaseLeft := if u.lease = some h then 0 else u.leaseLeft }) hv

theorem State.vacating_lane (m : LaneId) :
    (s.vacating h).lane m = { (s.releasePin h).lane m with subscribers := put (s.lane m).subscribers h false } := by
  have hsub : ((s.releasePin h).lane m).subscribers = (s.lane m).subscribers := by rw [State.releasePin_lane]
  have hcleared : (s.vacating h).lane m = (s.cleared h).lane m := by rw [State.vacating_eq]; rfl
  rw [hcleared, State.cleared, State.unsubscribeAll_lane, ← hsub]
  rfl

end

/-! ### The lanes as a released pin leaves them -/

theorem State.releasePin_lane_of_not_waiting {s : State} {l : LaneId} (hw : (s.lane l).waiting = false) (h : HostId) :
    (s.releasePin h).lane l = s.lane l := by
  obtain ⟨-, e⟩ | ⟨m, b, -, e⟩ := s.releasePin_cases h <;> rw [e]
  split
  next hm =>
    have hne : m ≠ l := fun e => by
      rw [e, hw] at hm
      exact absurd hm (by decide)
    obtain ⟨c, -, -, -, h'⟩ | ⟨-, h'⟩ := (s.setPort h { s.port h with pin := none }).takeBank_cases m <;> rw [h']
    · rw [State.lane_setLane_ne _ _ hne]
      rfl
    · rw [State.lane_setLane_ne _ _ hne]
      rfl
  · rfl

theorem State.releasePin_run_of_waiting {s : State} {l : LaneId} (hr : (s.lane l).run = .bankWait) (h : HostId) :
    ((s.releasePin h).lane l).run = .ready ∨ ((s.releasePin h).lane l).run = .bankWait := by
  obtain ⟨-, e⟩ | ⟨m, b, -, e⟩ := s.releasePin_cases h <;> rw [e]
  · exact .inr hr
  · split
    · by_cases hm : m = l
      · subst hm
        obtain ⟨c, -, -, -, h'⟩ | ⟨-, h'⟩ := (s.setPort h { s.port h with pin := none }).takeBank_cases m <;>
          rw [h', State.lane_setLane_self]
        · exact .inl rfl
        · exact .inr rfl
      · right
        obtain ⟨c, -, -, -, h'⟩ | ⟨-, h'⟩ := (s.setPort h { s.port h with pin := none }).takeBank_cases m <;>
          rw [h', State.lane_setLane_ne _ _ hm] <;> exact hr
    · exact .inr hr

theorem State.releasePin_stamps (s : State) (h : HostId) :
    (s.releasePin h).banks.map (·.map (·.stamp)) = s.banks.map (·.map (·.stamp)) := by
  have bank (m : LaneId) (c : BankId) : ((s.releasePin h).bank m c).stamp = (s.bank m c).stamp := by
    obtain ⟨-, e⟩ | ⟨l, b, -, e⟩ := s.releasePin_cases h <;> rw [e]
    split
    · obtain ⟨d, -, -, -, h'⟩ | ⟨-, h'⟩ := (s.setPort h { s.port h with pin := none }).takeBank_cases l <;> rw [h']
      · exact State.clearBank_stamp _ l m d c
      · rfl
    · rfl
  exact table_ext fun m => by
    rw [look_map, look_map]
    exact table_ext fun c => by
      rw [look_map, look_map]
      exact bank m c

/-! ### The lanes of the host -/

section
variable {x : Lane} {f : Bool}

theorem Lane.orphaned_keeps : (x.orphaned f).program = x.program ∧ (x.orphaned f).config = x.config
    ∧ (x.orphaned f).front = x.front ∧ (x.orphaned f).generation = x.generation ∧ (x.orphaned f).overrun = x.overrun
    ∧ (x.orphaned f).subscribers = x.subscribers ∧ (x.orphaned f).condition = .orphan := by
  unfold Lane.orphaned
  cases x.run with
  | running => cases f <;> exact ⟨rfl, rfl, rfl, rfl, rfl, rfl, rfl⟩
  | _ => exact ⟨rfl, rfl, rfl, rfl, rfl, rfl, rfl⟩

/-- A lane with an attempt in flight, or in STOPPING, is in STOPPING with its pass as it was (R36, R41). -/
theorem Lane.orphaned_of_stays (h : x.run = .stopping ∨ (x.run = .running ∧ f = true)) :
    x.orphaned f = { x with condition := .orphan, run := .stopping } := by
  obtain h | ⟨h, rfl⟩ := h <;> simp only [Lane.orphaned, h, if_true]

/-- Any other lane is IDLE, its pass given up (R35, R41). -/
theorem Lane.orphaned_of_leaves (hx : x.Ok) (h : ¬ (x.run = .stopping ∨ (x.run = .running ∧ f = true))) :
    (x.orphaned f).run = .idle ∧ (x.orphaned f).position = 0 ∧ (x.orphaned f).pending = false
      ∧ (x.orphaned f).disarmAtEnd = false ∧ (x.orphaned f).write = none ∧ (x.orphaned f).waiting = false
      ∧ (x.orphaned f).held = none := by
  have hheld := hx.held_eq_none
  obtain ⟨-, -, hwrite, hwaiting, hpos, hpass, -⟩ := hx
  -- outside a pass the lane has nothing of one
  have rest (hr : x.run.inPass = false) : x.pending = false ∧ x.disarmAtEnd = false ∧ x.write = none ∧ x.waiting = false
      ∧ x.held = none := by
    obtain ⟨hd, hp⟩ := hpass hr
    cases hrun : x.run <;> simp_all [RunState.inPass, RunState.hasBank]
  cases hr : x.run with
  | idle =>
    obtain ⟨hp, hd, hw, hwait, hk⟩ := rest (by rw [hr]; rfl)
    simp only [Lane.orphaned, hr]
    exact ⟨trivial, hpos (.inl hr), hp, hd, hw, hwait, hk⟩
  | armed =>
    obtain ⟨hp, hd, hw, hwait, hk⟩ := rest (by rw [hr]; rfl)
    simp only [Lane.orphaned, hr]
    exact ⟨trivial, hpos (.inr hr), hp, hd, hw, hwait, hk⟩
  | halted =>
    obtain ⟨hp, hd, hw, hwait, hk⟩ := rest (by rw [hr]; rfl)
    simp only [Lane.orphaned, hr]
    exact ⟨trivial, trivial, hp, hd, hw, hwait, hk⟩
  | stopping => exact absurd (.inl hr) h
  | running =>
    have hf : ¬ f = true := fun hf => h (.inr ⟨hr, hf⟩)
    simp only [Lane.orphaned, hr, if_neg hf]
    exact ⟨rfl, rfl, rfl, rfl, rfl, rfl, rfl⟩
  | _ =>
    simp only [Lane.orphaned, hr]
    exact ⟨rfl, rfl, rfl, rfl, rfl, rfl, rfl⟩

end

end Sys2Proof.Machine
end


section
/-! SUPPORT. The statement about port resets: what of a lane and of the grant a reset port's host had, and what the reset
leaves. -/

set_option Elab.async false

namespace Sys2Proof.Machine

/-! ### The grant after the direct queue is emptied -/

section
variable {s : State} {h : HostId} {e : Execution}

theorem State.directGrant_of_none (hx : s.exec = none) : s.directGrant h = none := by
  cases hq : s.directQueue h <;> simp only [State.directGrant, hq, hx]

theorem State.directGrant_of_other (hx : s.exec = some e) (hh : e.holder ≠ .direct h) : s.directGrant h = some e := by
  cases hq : s.directQueue h with
  | nil => simp only [State.directGrant, hq, hx]
  | cons r rest => simp only [State.directGrant, hq, hx, if_pos hh]

/-- A direct head in execution stands in its queue (R59). -/
theorem State.directGrant_of_holder (hs : s.LanesOk) (hx : s.exec = some e) (hh : e.holder = .direct h) :
    s.directGrant h = if e.inFlight then some { e with holder := .discarded } else none := by
  cases hq : s.directQueue h with
  | nil =>
    obtain ⟨-, -, hb⟩ := hs.execution hx
    simp [Execution.brought, hh, hq] at hb
  | cons r rest => simp only [State.directGrant, hq, hx, if_neg (not_not_intro hh)]

/-- The emptying of a direct queue leaves a lane its grant. -/
theorem State.directGrant_lane_iff (hs : s.LanesOk) {l : LaneId} (hl : e.holder = .lane l) :
    s.directGrant h = some e ↔ s.exec = some e := by
  refine ⟨fun he => ?_, fun he => State.directGrant_of_other he (by simp [hl])⟩
  cases hx : s.exec with
  | none =>
    rw [State.directGrant_of_none hx] at he
    cases he
  | some f =>
    by_cases hh : f.holder = .direct h
    · rw [State.directGrant_of_holder hs hx hh] at he
      split at he
      · obtain rfl := Option.some.inj he
        cases hl
      · cases he
    · rw [State.directGrant_of_other hx hh] at he
      exact he

end

/-! ### A lane before it is taken -/

section
variable {s : State} {h : HostId} {l : LaneId}

theorem State.vacating_owner : ((s.vacating h).lane l).owner = (s.lane l).owner := by
  rw [State.vacating_lane, State.releasePin_lane]
  rfl

theorem State.vacating_exec : (s.vacating h).exec = s.directGrant h := by rw [State.vacating_eq]

/-- A lane with the grant has no part in what its host's pin gives back. -/
theorem State.vacating_lane_of_granted (hs : s.LanesOk) (hr : (s.lane l).run = .running ∨ (s.lane l).run = .stopping) :
    (s.vacating h).lane l = { s.lane l with subscribers := put (s.lane l).subscribers h false } := by
  have hw : (s.lane l).waiting = false := by
    obtain ⟨-, -, -, hwait, -⟩ := hs.base.lanes l
    obtain hr | hr := hr <;> rw [hwait, hr] <;> rfl
  rw [State.vacating_lane, State.releasePin_lane_of_not_waiting hw]

theorem State.vacating_run (hs : s.LanesOk) {r : RunState} (hr : r = .running ∨ r = .stopping) :
    ((s.vacating h).lane l).run = r ↔ (s.lane l).run = r := by
  refine ⟨fun hrun => ?_, fun hrun => ?_⟩
  · rw [State.vacating_lane] at hrun
    have hrun : ((s.releasePin h).lane l).run = r := hrun
    cases hw : (s.lane l).waiting with
    | true =>
      exfalso
      obtain hp | hp := State.releasePin_run_of_waiting (hs.run_of_waiting hw) h <;>
        (rw [hp] at hrun; subst hrun; simp at hr)
    | false => rwa [State.releasePin_lane_of_not_waiting hw] at hrun
  · subst hrun
    rw [State.vacating_lane_of_granted hs hr]

theorem State.vacating_laneInFlight (hs : s.LanesOk) : (s.vacating h).laneInFlight l = s.laneInFlight l := by
  have inFlight (u : State) : u.laneInFlight l = true ↔ ∃ e, u.exec = some e ∧ e.holder = .lane l ∧ e.inFlight = true := by
    unfold State.laneInFlight
    cases u.exec <;> simp
  rw [Bool.eq_iff_iff, inFlight, inFlight, State.vacating_exec]
  refine exists_congr fun e => ⟨fun ⟨he, hl, hf⟩ => ⟨?_, hl, hf⟩, fun ⟨he, hl, hf⟩ => ⟨?_, hl, hf⟩⟩
  · exact (State.directGrant_lane_iff hs hl).mp he
  · exact (State.directGrant_lane_iff hs hl).mpr he

theorem State.vacating_drops (hs : s.LanesOk) : (s.vacating h).Drops h l ↔ s.Drops h l := by
  unfold State.Drops
  rw [State.vacating_owner, State.vacating_exec, State.vacating_run hs (.inl rfl)]
  refine exists_congr fun e => ⟨fun ⟨he, hl, hf⟩ => ⟨?_, hl, hf⟩, fun ⟨he, hl, hf⟩ => ⟨?_, hl, hf⟩⟩
  · exact (State.directGrant_lane_iff hs hl).mp he
  · exact (State.directGrant_lane_iff hs hl).mpr he

theorem State.vacating_orphanEnds (hs : s.LanesOk) : (s.vacating h).orphanEnds h l = s.orphanEnds h l := by
  have hheld : (s.vacating h).heldEnd l = s.heldEnd l := by
    unfold State.heldEnd
    rw [State.vacating_lane, State.releasePin_lane]
  have hgrant : (s.vacating h).grantEnd l = s.grantEnd l := by
    unfold State.grantEnd
    rw [State.vacating_exec]
    cases hx : s.exec with
    | none => rw [State.directGrant_of_none hx]
    | some e =>
      by_cases hh : e.holder = .direct h
      · rw [State.directGrant_of_holder hs hx hh]
        cases e.inFlight <;> simp [hh]
      · rw [State.directGrant_of_other hx hh]
        simp only [State.vacating_run hs (.inl rfl)]
  unfold State.orphanEnds
  rw [State.vacating_owner, hheld, hgrant]

end

/-! ### What a port reset leaves -/

theorem State.closePort_port (s : State) (h k : HostId) : (s.closePort h).port k
    = if h = k then ⟨.inReset, .low, (s.port h).frame.ignoredFrom, 0, .clear, none⟩ else s.port k := by
  unfold State.closePort
  by_cases e : h = k
  · subst e
    rw [if_pos rfl, State.port_setPort_self]
  · rw [if_neg e, State.port_setPort_ne _ _ e, State.releasePin_port, if_neg e]

theorem allLanes_nodup : allLanes.Nodup := by decide

section
variable {s : State} {h : HostId} (hs : s.LanesOk)
include hs

/-- What a port reset leaves alone, and what it clears at once (R170). -/
theorem State.resetPort_frame : s.resetPort h = { s with
    ports := (s.closePort h).ports
    usage := (s.resetPort h).usage
    mail := (s.resetPort h).mail
    lanes := (s.resetPort h).lanes
    banks := (s.releasePin h).banks
    direct := put s.direct h []
    exec := (s.resetPort h).exec
    stations := (s.resetPort h).stations
    lease := if s.lease = some h then none else s.lease
    leaseLeft := if s.lease = some h then 0 else s.leaseLeft } := by
  have hb := State.vacating_lanesOk hs h
  have hvac := s.vacating_eq h
  rw [State.resetPort_eq_orphanAll]
  generalize s.vacating h = b at hb hvac ⊢
  refine (State.orphanAll_frame hb).trans ?_
  generalize b.orphanAll h allLanes = t
  exact congrArg (fun u : State => { u with
    usage := t.usage, lanes := t.lanes, exec := t.exec, stations := t.stations, mail := t.mail }) hvac

theorem State.resetPort_port (k : HostId) : (s.resetPort h).port k
    = if h = k then ⟨.inReset, .low, (s.port h).frame.ignoredFrom, 0, .clear, none⟩ else s.port k :=
  (congrArg (State.port · k) (State.resetPort_frame hs)).trans (s.closePort_port h k)

theorem State.resetPort_directQueue (k : HostId) : (s.resetPort h).directQueue k
    = if h = k then [] else s.directQueue k :=
  (congrArg (State.directQueue · k) (State.resetPort_frame hs)).trans (look_put ..)

theorem State.resetPort_lane (l : LaneId) : (s.resetPort h).lane l
    = if (s.lane l).owner = some h then ((s.vacating h).lane l).orphaned (s.laneInFlight l) else (s.vacating h).lane l := by
  rw [State.resetPort_eq_orphanAll, State.orphanAll_lane allLanes_nodup (State.vacating_lanesOk hs h), State.vacating_owner,
    State.vacating_laneInFlight hs]
  simp only [mem_allLanes, true_and]

theorem State.resetPort_exec : ((∃ l, s.Drops h l) → (s.resetPort h).exec = none)
    ∧ ((∀ l, ¬ s.Drops h l) → (s.resetPort h).exec = s.directGrant h) := by
  obtain ⟨hdrop, hkeep⟩ := State.orphanAll_exec (h := h) allLanes_nodup (State.vacating_lanesOk hs h)
  rw [State.resetPort_eq_orphanAll]
  refine ⟨fun ⟨l, hl⟩ => hdrop ⟨l, mem_allLanes l, (State.vacating_drops hs).mpr hl⟩, fun hno => ?_⟩
  exact (hkeep fun l _ hl => hno l ((State.vacating_drops hs).mp hl)).trans State.vacating_exec

/-- The toggles of every step that ends with a port reset (R98, R170). -/
theorem State.resetPort_stations : (s.resetPort h).stations
    = (s.settleAll (s.directEnds h ++ allLanes.flatMap (s.orphanEnds h))).stations := by
  have hends : allLanes.flatMap ((s.vacating h).orphanEnds h) = allLanes.flatMap (s.orphanEnds h) :=
    List.flatMap_congr fun l _ => State.vacating_orphanEnds hs
  have hst : (s.vacating h).stations = (s.settleAll (s.directEnds h)).stations := by rw [State.vacating_eq]
  rw [State.resetPort_eq_orphanAll, State.orphanAll_stations allLanes_nodup (State.vacating_lanesOk hs h), hends,
    State.settleAll_append]
  exact State.settleAll_stations hst _

theorem State.resetPort_usage (k : HostId) : (s.resetPort h).usageOf k
    = if h = k then s.usageOf k - (allLanes.map fun l => if (s.lane l).owner = some h then (s.lane l).program.length else 0).sum
      else s.usageOf k := by
  have huse : (s.vacating h).usageOf k = s.usageOf k := by
    rw [State.vacating_eq]
    rfl
  have hprog (l : LaneId) : ((s.vacating h).lane l).program = (s.lane l).program := by
    rw [State.vacating_lane, State.releasePin_lane]
  rw [State.resetPort_eq_orphanAll, State.orphanAll_usage allLanes_nodup (State.vacating_lanesOk hs h), huse]
  simp only [State.vacating_owner, hprog]

theorem State.resetPort_mailbox (k : HostId) : (s.resetPort h).mailbox k
    = if h = k then .fresh
      else if s.inReset k then s.mailbox k
      else (allLanes.filter fun l => (s.lane l).owner = some h).foldl
        (fun m l => m.record ⟨s.timestamp, .laneOrphaned l⟩) (s.mailbox k) := by
  have hmail : (s.vacating h).mailbox k = if h = k then .fresh else s.mailbox k := by
    rw [State.vacating_eq]
    exact look_put ..
  have hreset : (s.vacating h).inReset k = if h = k then true else s.inReset k := by
    have hport : (s.vacating h).port k = (s.closePort h).port k := by
      rw [State.vacating_eq]
      rfl
    unfold State.inReset
    rw [hport, State.closePort_port]
    split <;> rfl
  have htime : (s.vacating h).timestamp = s.timestamp := by rw [State.vacating_eq]
  rw [State.resetPort_eq_orphanAll, State.orphanAll_mailbox allLanes_nodup (State.vacating_lanesOk hs h), hmail, hreset, htime]
  simp only [State.vacating_owner]
  split <;> rfl

end

theorem State.LanesOk.run_of_inFlight {s : State} (hs : s.LanesOk) {l : LaneId} (hf : s.laneInFlight l = true) :
    (s.lane l).run = .running ∨ (s.lane l).run = .stopping := by
  refine (hs.runs_iff l).mpr ?_
  unfold State.laneInFlight at hf
  cases he : s.exec with
  | none => simp [he] at hf
  | some e => simp_all

/-- A lane of the reset host, by whether its step is on the line (R36, R41). -/
theorem State.stays_iff {s : State} (hs : s.LanesOk) (h : HostId) (l : LaneId) :
    ((s.lane l).run = .stopping ∨ s.laneInFlight l = true)
      ↔ ((s.vacating h).lane l).run = .stopping ∨ (((s.vacating h).lane l).run = .running ∧ s.laneInFlight l = true) := by
  rw [State.vacating_run hs (.inr rfl), State.vacating_run hs (.inl rfl)]
  refine ⟨fun hst => ?_, fun hst => hst.imp_right And.right⟩
  obtain hr | hf := hst
  · exact .inl hr
  · exact (hs.run_of_inFlight hf).symm.imp_right fun hr => ⟨hr, hf⟩

/-- Settles O23: the queue and the pin first, then every lane of the host. -/
theorem portResetClearsTheHost : Obligations.PortResetClearsTheHost := by
  intro s h hs stays ended flips
  have hframe := State.resetPort_frame (h := h) hs
  have hlane := State.resetPort_lane (h := h) hs
  have hstations := State.resetPort_stations (h := h) hs
  have hkeep (l : LaneId) : look ((s.vacating h).lane l).subscribers h = false
      ∧ ((s.vacating h).lane l).program = (s.lane l).program ∧ ((s.vacating h).lane l).config = (s.lane l).config
      ∧ ((s.vacating h).lane l).front = (s.lane l).front ∧ ((s.vacating h).lane l).generation = (s.lane l).generation
      ∧ ((s.vacating h).lane l).overrun = (s.lane l).overrun := by
    rw [State.vacating_lane, State.releasePin_lane]
    exact ⟨look_put_self .., rfl, rfl, rfl, rfl, rfl⟩
  refine ⟨s.resetPort h, rfl, ?_, ?_, ?_, congrArg State.lease hframe, ?_, fun seg n => ?_, fun l => ?_, fun l ho => ?_,
    fun l ho => ?_, ?_, fun k hk => ?_, by rw [hframe], by rw [hframe],
    by rw [hframe], by rw [hframe], ?_, by rw [hframe]⟩
  · rw [State.resetPort_port hs, if_pos rfl]
  · rw [State.resetPort_mailbox hs, if_pos rfl]
  · rw [State.resetPort_directQueue hs, if_pos rfl]
  · obtain ⟨hdrop, hstay⟩ := State.resetPort_exec (h := h) hs
    cases hx : s.exec with
    | none => exact (hstay fun l ⟨e, he, _⟩ => by rw [hx] at he; cases he).trans (State.directGrant_of_none hx)
    | some e =>
      -- no lane of the host has the grant, or the one that has it keeps it
      have stay (hno : ∀ l, e.holder = .lane l → ¬ ((s.lane l).owner = some h ∧ (s.lane l).run = .running ∧ e.inFlight = false)) :
          (s.resetPort h).exec = s.directGrant h :=
        hstay fun l ⟨f, hf, hl, hrest⟩ => by
          obtain rfl : e = f := Option.some.inj (hx.symm.trans hf)
          exact hno l hl hrest
      dsimp only
      cases hh : e.holder with
      | direct k =>
        rw [stay fun l hl => by rw [hh] at hl; cases hl]
        by_cases hk : k = h
        · subst hk
          rw [State.directGrant_of_holder hs hx hh]
          simp
        · rw [State.directGrant_of_other hx (by rw [hh]; simpa using hk)]
          simp [hk]
      | lane l =>
        by_cases hc : (s.lane l).owner = some h ∧ (s.lane l).run = .running ∧ e.inFlight = false
        · exact (hdrop ⟨l, e, hx, hh, hc⟩).trans (if_pos hc).symm
        · rw [stay fun m hm => ?_, State.directGrant_of_other hx (by rw [hh]; simp)]
          · exact (if_neg hc).symm
          · obtain rfl : l = m := Holder.lane.inj (hh.symm.trans hm)
            exact hc
      | discarded =>
        rw [stay fun l hl => by rw [hh] at hl; cases hl]
        exact State.directGrant_of_other hx (by rw [hh]; simp)
      | probe =>
        rw [stay fun l hl => by rw [hh] at hl; cases hl]
        exact State.directGrant_of_other hx (by rw [hh]; simp)
  · have hst : (s.resetPort h).station seg n = (s.settleAll ended).station seg n :=
      congrArg (fun u => look (look u seg) n) hstations
    rw [hst]
    exact State.settleAll_station ended seg n
  · obtain ⟨hsub, hrest⟩ := hkeep l
    rw [hlane]
    split
    · obtain ⟨hp, hc, hf, hg, ho, hs', -⟩ := Lane.orphaned_keeps (x := (s.vacating h).lane l) (f := s.laneInFlight l)
      rw [hp, hc, hf, hg, ho, hs']
      exact ⟨hsub, hrest⟩
    · exact ⟨hsub, hrest⟩
  · obtain ⟨-, -, -, -, -, -, hcond⟩ := Lane.orphaned_keeps (x := (s.vacating h).lane l) (f := s.laneInFlight l)
    have hx := (State.vacating_lanesOk hs h).base.lanes l
    have hstays := State.stays_iff hs h l
    rw [hlane, if_pos ho]
    refine ⟨hcond, ?_, fun hst => ?_, fun hst => ?_⟩
    · split
      next hst => rw [Lane.orphaned_of_stays (hstays.mp hst)]
      next hst =>
        obtain ⟨hidle, -⟩ := Lane.orphaned_of_leaves hx fun hn => hst (hstays.mpr hn)
        exact hidle
    · have hgranted : (s.lane l).run = .running ∨ (s.lane l).run = .stopping :=
        hst.elim .inr hs.run_of_inFlight
      rw [Lane.orphaned_of_stays (hstays.mp hst), State.vacating_lane_of_granted hs hgranted]
      exact ⟨rfl, rfl, rfl, rfl⟩
    · obtain ⟨-, hrest⟩ := Lane.orphaned_of_leaves hx fun hn => hst (hstays.mpr hn)
      exact hrest
  · rw [hlane, if_neg ho, State.vacating_lane]
  · rw [State.resetPort_usage hs, if_pos rfl]
  · have hk : h ≠ k := hk.symm
    refine ⟨?_, ?_, ?_, ?_⟩
    · rw [State.resetPort_port hs, if_neg hk]
    · rw [State.resetPort_directQueue hs, if_neg hk]
    · rw [State.resetPort_usage hs, if_neg hk]
    · rw [State.resetPort_mailbox hs, if_neg hk]
  · rw [congrArg State.banks hframe]
    exact s.releasePin_stamps h

end Sys2Proof.Machine
end
